-- ==== Sys2Proof/Word.lean ====
section
/-! DEFINITION. The widths of DMUX3's data (spec 00_scope R4, R8, R9): every value is an unsigned bit vector. -/

namespace Sys2Proof

/-- A UInt8 of the spec (00_scope R9): COUNTER, READING, ADRES, SEG, IMM8. -/
abbrev Byte := BitVec 8

/-- A nibble: a 4-bit half of an 8-bit value (00_scope R8). -/
abbrev Nibble := BitVec 4

/-- A 16-bit operation word, presented whole (00_scope R6, 30_encoding R47). -/
abbrev Word := BitVec 16

end Sys2Proof
end

