-- ==== Sys2Proof/Syntax.lean ====
section
/-! DEFINITION. The nine operations of 30_encoding R50, the two codes a word is refused with, and the source lines of
30_encoding R57. -/

namespace Sys2Proof

/-- One constructor per row of spec/opcode_table.json. CONV_DONE's operand has the width of its field IMM8, so no
ill-formed operation can be written (30_encoding R49). -/
inductive Instr where
  /-- RESET (70_reset_and_hazards R123). -/
  | reset
  /-- TMR_CLK (43_timer R88). -/
  | tmrClk
  /-- CONV_DONE v (42_shared_state R75). -/
  | convDone (v : Byte)
  /-- TAKE_TIMER (41_display_multiplexer R59). -/
  | takeTimer
  /-- TAKE_SAMPLE (42_shared_state R76). -/
  | takeSample
  /-- CNT_INC (42_shared_state R77). -/
  | cntInc
  /-- CNT_DEC (42_shared_state R78). -/
  | cntDec
  /-- RD_COUNTER (42_shared_state R79). -/
  | rdCounter
  /-- RD_READING (42_shared_state R80). -/
  | rdReading
  deriving DecidableEq, Repr

/-- The refusal codes of 60_exceptions R114. -/
inductive RefusalCode where
  /-- 1: OP = 0x0 or OP in 0xA..0xF; raised by decode. -/
  | reservedOpcode
  /-- 2: RSV or a must-be-zero IMM8 is not zero; raised by decode. -/
  | nonzeroReservedField
  /-- 3: a parameter outside its legal values; raised by the configuration. -/
  | badConfig
  deriving DecidableEq, Repr

/-- The mnemonics of 30_encoding R57. -/
inductive Mnemonic where
  | reset
  | tmrClk
  | convDone
  | takeTimer
  | takeSample
  | cntInc
  | cntDec
  | rdCounter
  | rdReading
  deriving DecidableEq, Repr

/-- One line of source text (30_encoding R57): a mnemonic, the operand written after it if any, and the repeat count
(1 where none is written). -/
structure Line where
  mnemonic : Mnemonic
  operand : Option Nat
  count : Nat
  deriving DecidableEq, Repr

end Sys2Proof
end

