-- ==== Sys2Proof/WellFormed.lean ====
section
/-! DEFINITION. Which source lines can be assembled (30_encoding R57). An `Instr` needs no check: its one operand has the
width of its field. Which configurations are legal (00_scope R5) is `Machine.configLegal`, in Machine/Parameters.lean. -/

namespace Sys2Proof

/-- 30_encoding R57: CONV_DONE takes one operand, and "a value outside 0..255 is an assembly error"; the other mnemonics
take no operand. -/
def Line.wellFormed (l : Line) : Bool :=
  match l.mnemonic, l.operand with
  | .convDone, some v => decide (v ≤ 255)
  | .convDone, none => false
  | .reset, o | .tmrClk, o | .takeTimer, o | .takeSample, o => o.isNone
  | .cntInc, o | .cntDec, o | .rdCounter, o | .rdReading, o => o.isNone

end Sys2Proof
end

