-- ==== Sys2Proof/Decode.lean ====
section
/-! DEFINITION. The decoder of 30_encoding R55 and the encoder of R50, total on all 16-bit words. -/

namespace Sys2Proof

/-- OP = W[15:12] (30_encoding R47). -/
def opField (w : Word) : Nibble := w.extractLsb' 12 4

/-- RSV = W[11:8] (30_encoding R47). -/
def rsvField (w : Word) : Nibble := w.extractLsb' 8 4

/-- IMM8 = W[7:0] (30_encoding R47), used as is (R49). -/
def immField (w : Word) : Byte := w.extractLsb' 0 8

/-- 60_exceptions R114: the number of a refusal code. -/
def refusalNumber : RefusalCode → Nat
  | .reservedOpcode => 1
  | .nonzeroReservedField => 2
  | .badConfig => 3

/-- The operations without an operand, by OP (30_encoding R50). The last arm takes the OPs that `decode` has answered
before it asks: 0x0, 0x3 and 0xA..0xF. -/
def plainOperation (op : Nibble) : Except RefusalCode Instr :=
  match op.toNat with
  | 1 => .ok .reset
  | 2 => .ok .tmrClk
  | 4 => .ok .takeTimer
  | 5 => .ok .takeSample
  | 6 => .ok .cntInc
  | 7 => .ok .cntDec
  | 8 => .ok .rdCounter
  | 9 => .ok .rdReading
  | _ => .error .reservedOpcode

/-- 30_encoding R55, its checks in its order (so R51 to R53; a word with both a reserved OP and a non-zero RSV reports
RESERVED_OPCODE). -/
def decode (w : Word) : Except RefusalCode Instr :=
  if opField w = 0 ∨ 0xA#4 ≤ opField w then .error .reservedOpcode
  else if rsvField w ≠ 0 then .error .nonzeroReservedField
  else if opField w = 3 then .ok (.convDone (immField w))
  else if immField w ≠ 0 then .error .nonzeroReservedField
  else plainOperation (opField w)

/-- 30_encoding R50: the word of an operation. -/
def encode : Instr → Word
  | .reset => 0x1000
  | .tmrClk => 0x2000
  | .convDone v => 0x3000 ||| v.setWidth 16
  | .takeTimer => 0x4000
  | .takeSample => 0x5000
  | .cntInc => 0x6000
  | .cntDec => 0x7000
  | .rdCounter => 0x8000
  | .rdReading => 0x9000

/-- The operation word whose low `nbits` bits are those of `w` and whose other bits are 0, numbered as
spec/opcode_table.json numbers them: the word is one 16-bit number (20_memory R35), so its bits keep their places. -/
def tableWord (nbits w : Nat) : Word := BitVec.ofNat 16 (w % 2 ^ nbits)

/-- The operation the decoder reads from a row's word. No operation is longer than 16 bits (30_encoding R48). -/
def decodeTableWord (nbits w : Nat) : Option Instr :=
  if nbits ≤ 16 then (decode (tableWord nbits w)).toOption else none

/-- The opcode table's mask and match of an operation's row (spec/opcode_table.json; 30_encoding R50). -/
def tableRow : Instr → Word × Word
  | .reset => (0xFFFF, 0x1000)
  | .tmrClk => (0xFFFF, 0x2000)
  | .convDone _ => (0xFF00, 0x3000)
  | .takeTimer => (0xFFFF, 0x4000)
  | .takeSample => (0xFFFF, 0x5000)
  | .cntInc => (0xFFFF, 0x6000)
  | .cntDec => (0xFFFF, 0x7000)
  | .rdCounter => (0xFFFF, 0x8000)
  | .rdReading => (0xFFFF, 0x9000)

/-- The operation a well-formed source line names (30_encoding R57); `none` is an assembly error. -/
def lineInstr (l : Line) : Option Instr :=
  if l.wellFormed then
    match l.mnemonic with
    | .reset => some .reset
    | .tmrClk => some .tmrClk
    | .convDone => l.operand.map (fun v => .convDone (BitVec.ofNat 8 v))
    | .takeTimer => some .takeTimer
    | .takeSample => some .takeSample
    | .cntInc => some .cntInc
    | .cntDec => some .cntDec
    | .rdCounter => some .rdCounter
    | .rdReading => some .rdReading
  else none

/-- 30_encoding R57: "Assembly maps a line to its word by rule R50"; a repeat count gives that many copies. -/
def assembleLine (l : Line) : Option (List Word) :=
  (lineInstr l).map (fun i => List.replicate l.count (encode i))

end Sys2Proof
end

