-- ==== Sys2Proof/Config.lean ====
section
/-! DEFINITION. The open parameters of 00_scope R4, and the free values behind `draw` (00_scope R10).
Which parameter values are legal, and the defaults, stand in Machine/Parameters.lean. -/

namespace Sys2Proof

/-- TICK_ORDER (00_scope R4, decision D8). -/
inductive TickOrder where
  | renderThenAdvance
  | advanceThenRender
  deriving DecidableEq, Repr

/-- AUX_MODE (00_scope R4, decision D12, conflict C1). -/
inductive AuxMode where
  | continuous
  | busShared
  deriving DecidableEq, Repr

/-- IRQ_PRIORITY (00_scope R4, decision D21). -/
inductive IrqPriority where
  | unordered
  | timerFirst
  | sampleFirst
  deriving DecidableEq, Repr

/-- The open parameters of 00_scope R4, one field each. -/
structure Config where
  /-- TMR_W, the width of the countdown register TMR. -/
  tmrW : Nat
  /-- RELOAD, the constant loaded into TMR. -/
  reload : Nat
  /-- SEG_TABLE, the Digit Encoder's 16 patterns. -/
  segTable : Vector Byte 16
  /-- TICK_ORDER. -/
  tickOrder : TickOrder
  /-- PHASE_RESET; its legal values 0, 1, 2 are the type's. -/
  phaseReset : Fin 3
  /-- READING_RESET; `none` is an unknown value drawn at reset. -/
  readingReset : Option Byte
  /-- AUX_MODE. -/
  auxMode : AuxMode
  /-- IRQ_PRIORITY. -/
  irqPriority : IrqPriority
  deriving DecidableEq, Repr

/-- The values of `draw v : UInt8` (00_scope R10: "a free input of the step of type T, under no law"). The n-th draw of
a run is `Config.drawByte n`; the constant has no body, so no proof can know a value of it (assumption log 6). Safe. -/
opaque Config.drawByte : Nat → Byte

end Sys2Proof
end

