-- ==== Sys2Proof/Machine/Parameters.lean ====
section
/-! DEFINITION. The default configuration of 00_scope R4 and which configurations are legal (00_scope R5). -/

namespace Sys2Proof.Machine

/-- The default SEG_TABLE of 41_display_multiplexer R64. Entries 0x0 and 0x5 are the source's. PRESUMED (the spec's own
"general knowledge"): the other fourteen (assumption log 3). -/
def segTableDefault : Vector Byte 16 :=
  #v[0x3F, 0x06, 0x5B, 0x4F, 0x66, 0x6D, 0x7D, 0x07, 0x7F, 0x6F, 0x77, 0x7C, 0x39, 0x5E, 0x79, 0x71]

/-- The defaults of 00_scope R4. DESIGN CHOICE (assumption log 2): TMR_W and RELOAD are open there, and are the 8 and 3 of
95_test_vectors.md here. -/
def configDefault : Config :=
  { tmrW := 8
    reload := 3
    segTable := segTableDefault
    tickOrder := .renderThenAdvance
    phaseReset := 0
    readingReset := none
    auxMode := .continuous
    irqPriority := .unordered }

/-- 00_scope R5: a configuration is refused (BAD_CONFIG) exactly when this is false. PHASE_RESET, READING_RESET and the
enumerations hold only legal values by their types. -/
def configLegal (c : Config) : Bool :=
  decide (1 ≤ c.tmrW) && decide (1 ≤ c.reload) && decide (c.reload ≤ 2 ^ c.tmrW - 1)
    && decide (c.segTable[0] = 0x3F) && decide (c.segTable[5] = 0x6D)
    && decide (∀ n : Fin 16, (c.segTable[n]).getLsbD 7 = false)

/-- PHASE_RESET as a value of the 2-bit register PHASE (10_state R18). -/
def phaseResetValue (c : Config) : BitVec 2 := BitVec.ofNat 2 c.phaseReset.val

end Sys2Proof.Machine
end

