-- ==== Sys2Proof/Machine/State.lean ====
section
/-! DEFINITION. The state record of 10_state R13 as plain data, with the model's own four fields, the power-on state of
70_reset_and_hazards R124, and the reasons a step can stop. -/

namespace Sys2Proof.Machine

/-- An output event (10_state R28): the named output register was written with the value. -/
inductive OutEvent where
  | seg (v : Byte)
  | en (v : BitVec 3)
  | aux (v : BitVec 2)
  deriving DecidableEq, Repr

/-- The fault codes of 60_exceptions R112. -/
inductive FaultCode where
  /-- 1: TAKE_TIMER found PHASE = 3. -/
  | illegalPhase
  deriving DecidableEq, Repr

/-- What a step gives the agent that presented the word (00_scope R6, R10). The model's own field (assumption log 8). -/
inductive StepResult where
  /-- No word has been presented yet. -/
  | idle
  /-- The word was accepted and gives no value. -/
  | done
  /-- The word was accepted and gives a value (`return v`, 00_scope R10). -/
  | returned (v : Byte)
  /-- The word is well-formed and has no step here; the state is unchanged (60_exceptions R116). -/
  | notTaken
  /-- The word raised a fault (60_exceptions R113). -/
  | faulted (code : FaultCode)
  /-- The word was refused by the decoder (60_exceptions R115). -/
  | refusedWord (code : RefusalCode)
  deriving DecidableEq, Repr

/-- The state of DMUX3. The first fourteen fields are the elements of 10_state R13; the last four are the model's own. -/
structure State where
  /-- COUNTER (10_state R16). -/
  counter : Byte
  /-- READING (10_state R17). -/
  reading : Byte
  /-- PHASE (10_state R18); 3 is illegal. -/
  phase : BitVec 2
  /-- SEG (10_state R19). -/
  seg : Byte
  /-- EN (10_state R20); bit i enables digit i. -/
  en : BitVec 3
  /-- AUX (10_state R21); in AUX_MODE BUS_SHARED it is no register and stays unwritten (assumption log 13). -/
  aux : BitVec 2
  /-- TMR (10_state R22), a value below 2^TMR_W (assumption log 14). -/
  tmr : Nat
  /-- TIF (10_state R24). -/
  tif : Bool
  /-- ADRES (10_state R25). -/
  adres : Byte
  /-- SIF (10_state R26). -/
  sif : Bool
  /-- CBUSY (10_state R27). -/
  cbusy : Bool
  /-- OUTH (10_state R28), oldest event first. -/
  outh : List OutEvent
  /-- FAULTS (10_state R29), a set as a list without repeats (assumption log 15). -/
  faults : List FaultCode
  /-- REFUSED (10_state R29). -/
  refused : Bool
  /-- The configuration (00_scope R4): a parameter of the step relation that no step writes (assumption log 1). -/
  config : Config
  /-- The operation words the environment presents, the next one first (00_scope R6; assumption log 7). -/
  input : List Word
  /-- What the last step gave the agent that presented its word (assumption log 8). -/
  result : StepResult
  /-- How many values have been drawn (`draw`, 00_scope R10; assumption log 6). -/
  draws : Nat
  deriving DecidableEq, Repr

/-- The reasons for which a step stops with a host-level fault: there is none. The spec's one fault, ILLEGAL_PHASE, has a
stated effect on the state (60_exceptions R113: the code joins FAULTS, and no operation has a step afterwards), so it is a
next state (assumption log 9). Nobody raises one; safe. -/
inductive Fault : Type
  deriving DecidableEq, Repr

/-- The reasons for which a step has no meaning. A word refused by the decoder is not among them: its effect is stated
(60_exceptions R115: REFUSED is set), so it is a next state (assumption log 10). -/
inductive Refusal where
  /-- Raised by exec's arm of an operation without a meaning; no arm raises it. Safe. -/
  | notModelled (mnemonic : String)
  /-- Raised by every step of a state whose configuration is illegal: "A refused configuration has no machine: no state and
  no step" (00_scope R5; BAD_CONFIG of 60_exceptions R114). Safe. -/
  | badConfig
  deriving DecidableEq, Repr

/-- The power-on state under configuration `c` (70_reset_and_hazards R123, R124), where `r` and `a` are the values that
READING (when READING_RESET is none) and ADRES come up with. -/
def State.powerOn (c : Config) (r a : Byte) : State :=
  { counter := 0x00
    reading := c.readingReset.getD r
    phase := phaseResetValue c
    seg := 0x00
    en := 0b000
    aux := 0b00
    tmr := c.reload
    tif := false
    adres := a
    sif := false
    cbusy := true
    outh := []
    faults := []
    refused := false
    config := c
    input := []
    result := .idle
    draws := 0 }

/-- The machine at power-on under the default configuration. DESIGN CHOICE: READING and ADRES, which the spec leaves
unknown here, are 0x00 (assumption log 4, 5); no statement rests on those two values. -/
def State.reset : State := State.powerOn configDefault 0x00 0x00

end Sys2Proof.Machine
end

