-- ==== Sys2Proof/Machine/Flags.lean ====
section
/-! DEFINITION. The 1-bit state: DMUX3 has no condition codes, only TIF, SIF and CBUSY (10_state R31); and the dispatch
rule of 60_exceptions R106, which reads the two pending flags. -/

namespace Sys2Proof.Machine

/-- The two interrupt sources of 60_exceptions R104. -/
inductive Source where
  /-- Source 0: the refresh timer, pending flag TIF. -/
  | timer
  /-- Source 1: sample completion, pending flag SIF. -/
  | sample
  deriving DecidableEq, Repr

/-- 60_exceptions R104: the source numbers. -/
def sourceNumber : Source → Nat
  | .timer => 0
  | .sample => 1

/-- 60_exceptions R104: a source is pending while its flag is 1. -/
def pending (src : Source) (s : State) : Bool :=
  match src with
  | .timer => s.tif
  | .sample => s.sif

/-- 60_exceptions R106. -/
def dispatchAllows (src : Source) (s : State) : Bool :=
  match src with
  | .timer => decide (s.config.irqPriority ≠ .sampleFirst) || !s.sif
  | .sample => decide (s.config.irqPriority ≠ .timerFirst) || !s.tif

/-- The enabling condition of a handler: pending, and the dispatch order allows it (41_display_multiplexer R59,
42_shared_state R76). Both sources are always enabled (60_exceptions R105). -/
def takeable (src : Source) (s : State) : Bool := pending src s && dispatchAllows src s

/-- 60_exceptions R104: the handler clears its source's flag on entry. -/
def acknowledge (src : Source) (s : State) : State :=
  { s with
    tif := match src with
      | .timer => false
      | .sample => s.tif
    sif := match src with
      | .timer => s.sif
      | .sample => false }

end Sys2Proof.Machine
end

