-- ==== Sys2Proof/Machine/Operands.lean ====
section
/-! DEFINITION. The operand forms: the nibbles of a cell (00_scope R8) and the two low bits shown on AUX (10_state R21).
CONV_DONE's operand IMM8 is read by the decoder, as is (30_encoding R49). No operation names a register or an address
(10_state R32). -/

namespace Sys2Proof.Machine

/-- v[3:0] (00_scope R8). -/
def lowNibble (v : Byte) : Nibble := v.extractLsb' 0 4

/-- v[7:4] (00_scope R8). -/
def highNibble (v : Byte) : Nibble := v.extractLsb' 4 4

/-- v[1:0] (10_state R21). -/
def lowTwo (v : Byte) : BitVec 2 := v.extractLsb' 0 2

end Sys2Proof.Machine
end

