-- ==== Sys2Proof/Machine/Ops.lean ====
section
/-! DEFINITION. The operations every meaning is written with: taking a word, accepting or not taking an operation, driving
an output, raising a fault, refusing a word, and taking an interrupt. DMUX3 has no memory (20_memory R34), so there is no
memory operation. -/

namespace Sys2Proof.Machine

/-! ### The input port -/

/-- The word presented to the block now, if any (00_scope R6). -/
def presentedWord (s : State) : Option Word := s.input.head?

/-- The presented word is no longer on the port: the environment withdraws a word after its one step, taken or not
(assumption log 7). -/
def withdrawWord (s : State) : State := { s with input := s.input.tail }

/-- The environment presents `w` next. -/
def presentNext (w : Word) (s : State) : State := { s with input := w :: s.input }

/-! ### Accepting an operation -/

/-- FAULTS is non-empty (60_exceptions R113). -/
def faultedState (s : State) : Bool := !s.faults.isEmpty

/-- A well-formed word with no step: the state does not change (60_exceptions R116); the agent sees that it was not taken. -/
def notTaken (s : State) : State := { s with result := .notTaken }

/-- An accepted operation gives no value unless its effect says so (00_scope R6). -/
def accept (s : State) : State := { s with result := .done }

/-- `return v` (00_scope R10). -/
def returnValue (v : Byte) (s : State) : State := { s with result := .returned v }

/-- One presented operation with its `require` conditions and its effect: a bad configuration has no step (00_scope R5);
a faulted state or a failed `require` leaves the state unchanged (00_scope R10, 60_exceptions R113, R116); otherwise the
effect is one atomic step (00_scope R6). -/
def present (enabled : Bool) (effect : State → State) (s : State) : Host.Outcome State Fault Refusal :=
  if configLegal s.config then
    if faultedState s || !enabled then .next (notTaken s) else .next (effect (accept s))
  else .refused .badConfig

/-! ### Outputs (10_state R28: write the register, then append the event) -/

/-- `SEG <- v ; emit SEG(v)`. -/
def driveSeg (v : Byte) (s : State) : State := { s with seg := v, outh := s.outh ++ [.seg v] }

/-- `EN <- v ; emit EN(v)`. -/
def driveEn (v : BitVec 3) (s : State) : State := { s with en := v, outh := s.outh ++ [.en v] }

/-- `if AUX_MODE = CONTINUOUS then AUX <- v ; emit AUX(v)` (10_state R21). -/
def driveAux (v : BitVec 2) (s : State) : State :=
  { s with
    aux := match s.config.auxMode with
      | .continuous => v
      | .busShared => s.aux
    outh := match s.config.auxMode with
      | .continuous => s.outh ++ [.aux v]
      | .busShared => s.outh }

/-! ### Faults and refusals -/

/-- 60_exceptions R112: the number of a fault code. -/
def faultNumber : FaultCode → Nat
  | .illegalPhase => 1

/-- FAULTS is a set: a code already in it is not added again. -/
def addFault (code : FaultCode) (fs : List FaultCode) : List FaultCode :=
  if code ∈ fs then fs else fs ++ [code]

/-- `raise Fault(code)` (60_exceptions R113): the code joins FAULTS, every other element stays, no event, no result. -/
def raiseFault (code : FaultCode) (s : State) : State :=
  { s with faults := addFault code s.faults, result := .faulted code }

/-- `refuse(code)` of a word (60_exceptions R115): REFUSED is set and no other element changes. -/
def refuseWord (code : RefusalCode) (s : State) : State :=
  { s with refused := true, result := .refusedWord code }

/-! ### Interrupts -/

/-- Taking an interrupt (60_exceptions R106, R108): the handler's whole body as one atomic step, when the source is pending
and allowed. Entry saves nothing and changes no mode, and the return restores nothing (R109), so the body is all of it.
The body acknowledges the source itself, after its own fault check. -/
def takeInterrupt (src : Source) (handler : State → State) (s : State) : Host.Outcome State Fault Refusal :=
  present (takeable src s) handler s

/-! ### Draws -/

/-- The next value of `draw v : UInt8` (00_scope R10). -/
def drawnByte (s : State) : Byte := Config.drawByte s.draws

/-- One draw has been used. -/
def countDraw (s : State) : State := { s with draws := s.draws + 1 }

end Sys2Proof.Machine
end

