-- ==== Sys2Proof/Machine/Counter.lean ====
section
/-! DEFINITION. The main loop's port: CNT_INC, CNT_DEC, RD_COUNTER, RD_READING (42_shared_state R77 to R80). -/

namespace Sys2Proof.Machine

/-- `COUNTER <- c`, and in AUX_MODE CONTINUOUS `AUX <- c[1:0] ; emit AUX(c[1:0])`. -/
def writeCounter (c : Byte) (s : State) : State := driveAux (lowTwo c) { s with counter := c }

/-- CNT_INC (42_shared_state R77): modulo 256, no saturation. -/
def execCntInc (s : State) : Host.Outcome State Fault Refusal :=
  present true (fun t => writeCounter (t.counter + 1) t) s

/-- CNT_DEC (42_shared_state R78). -/
def execCntDec (s : State) : Host.Outcome State Fault Refusal :=
  present true (fun t => writeCounter (t.counter - 1) t) s

/-- RD_COUNTER (42_shared_state R79): no state is written. -/
def execRdCounter (s : State) : Host.Outcome State Fault Refusal :=
  present true (fun t => returnValue t.counter t) s

/-- RD_READING (42_shared_state R80): no state is written. -/
def execRdReading (s : State) : Host.Outcome State Fault Refusal :=
  present true (fun t => returnValue t.reading t) s

end Sys2Proof.Machine
end

