-- ==== Sys2Proof/Machine/Display.lean ====
section
/-! DEFINITION. The Display Multiplexer's tick, TAKE_TIMER, and the Digit Encoder (41_display_multiplexer R59 to R74). -/

namespace Sys2Proof.Machine

/-- ENCODE(n) = SEG_TABLE[n] (41_display_multiplexer R63). -/
def encodeDigit (c : Config) (n : Nibble) : Byte := c.segTable[n.toNat]

/-- (p + 1) mod 3 (41_display_multiplexer R65). -/
def nextPhase (p : BitVec 2) : BitVec 2 := BitVec.ofNat 2 ((p.toNat + 1) % 3)

/-- The phase p a tick renders (41_display_multiplexer R59, TICK_ORDER). -/
def renderedPhase (s : State) : BitVec 2 :=
  match s.config.tickOrder with
  | .renderThenAdvance => s.phase
  | .advanceThenRender => nextPhase s.phase

/-- What a tick that renders `p` stores in PHASE (41_display_multiplexer R59, TICK_ORDER). -/
def storedPhase (s : State) : BitVec 2 :=
  match s.config.tickOrder with
  | .renderThenAdvance => nextPhase (renderedPhase s)
  | .advanceThenRender => renderedPhase s

/-- The pattern of phase `p` (41_display_multiplexer R60 to R62, R74): the raw COUNTER in phase 0, an encoded nibble of
READING in phases 1 and 2. One shared cell is read, once. -/
def phasePattern (p : BitVec 2) (s : State) : Byte :=
  if p = 0 then s.counter
  else if p = 1 then encodeDigit s.config (lowNibble s.reading)
  else encodeDigit s.config (highNibble s.reading)

/-- `1 << p` on the three enable lines (00_scope R9). -/
def selectLine (p : BitVec 2) : BitVec 3 := 1#3 <<< p.toNat

/-- The tick after its fault check (41_display_multiplexer R59): acknowledge, blank, drive, select, advance, reload. -/
def tick (s : State) : State :=
  let p := renderedPhase s
  let blanked := driveEn 0b000 (acknowledge .timer s)
  let driven := driveSeg (phasePattern p blanked) blanked
  { driveEn (selectLine p) driven with phase := storedPhase s, tmr := s.config.reload }

/-- The timer handler: a tick that finds PHASE = 3 faults before any write (41_display_multiplexer R59). -/
def timerHandler (s : State) : State :=
  if s.phase = 3 then raiseFault .illegalPhase s else tick s

/-- TAKE_TIMER. -/
def execTakeTimer (s : State) : Host.Outcome State Fault Refusal := takeInterrupt .timer timerHandler s

end Sys2Proof.Machine
end

