-- ==== Sys2Proof/Machine/Reset.lean ====
section
/-! DEFINITION. RESET (70_reset_and_hazards R123). -/

namespace Sys2Proof.Machine

/-- `if READING_RESET = some(v) then READING <- v else draw r ; READING <- r`. -/
def resetReading (s : State) : State :=
  match s.config.readingReset with
  | some v => { s with reading := v }
  | none => countDraw { s with reading := drawnByte s }

/-- `draw a : UInt8 ; ADRES <- a`. -/
def resetAdres (s : State) : State := countDraw { s with adres := drawnByte s }

/-- The body of RESET, in the order of its pseudocode. FAULTS, REFUSED and the earlier events of OUTH are kept. -/
def resetBody (s : State) : State :=
  let cells := { resetReading { s with counter := 0x00 } with phase := phaseResetValue s.config }
  let dark := driveAux 0b00 (driveSeg 0x00 (driveEn 0b000 cells))
  { resetAdres { dark with tmr := s.config.reload, tif := false } with sif := false, cbusy := true }

/-- RESET: enabled in every state that is not faulted. -/
def execReset (s : State) : Host.Outcome State Fault Refusal := present true resetBody s

end Sys2Proof.Machine
end

