-- ==== Sys2Proof/Machine/Sample.lean ====
section
/-! DEFINITION. The sample path: CONV_DONE and TAKE_SAMPLE (42_shared_state R75, R76). -/

namespace Sys2Proof.Machine

/-- The converter's result is latched, and its completion is pending (42_shared_state R75). -/
def latchResult (v : Byte) (s : State) : State := { s with adres := v, cbusy := false, sif := true }

/-- CONV_DONE v: enabled while a conversion is armed, CBUSY = 1. -/
def execConvDone (v : Byte) (s : State) : Host.Outcome State Fault Refusal := present s.cbusy (latchResult v) s

/-- The sample-completion handler (42_shared_state R76): acknowledge, publish, arm the next conversion. -/
def sampleHandler (s : State) : State :=
  { acknowledge .sample s with reading := s.adres, cbusy := true }

/-- TAKE_SAMPLE. -/
def execTakeSample (s : State) : Host.Outcome State Fault Refusal := takeInterrupt .sample sampleHandler s

end Sys2Proof.Machine
end

