-- ==== Sys2Proof/Machine/Timer.lean ====
section
/-! DEFINITION. TMR_CLK (43_timer R88, R89). -/

namespace Sys2Proof.Machine

/-- One clock of the countdown: TMR holds at 0; the clock that takes it from 1 to 0 sets TIF. -/
def timerClock (s : State) : State :=
  if s.tmr = 0 then s
  else { s with tmr := s.tmr - 1, tif := if s.tmr - 1 = 0 then true else s.tif }

/-- TMR_CLK: always enabled. -/
def execTmrClk (s : State) : Host.Outcome State Fault Refusal := present true timerClock s

end Sys2Proof.Machine
end

