-- ==== Sys2Proof/Machine/Dispatch.lean ====
section
/-! DEFINITION. The meaning of every operation, one arm per constructor of Instr. -/

namespace Sys2Proof.Machine

def exec (i : Instr) (s : State) : Host.Outcome State Fault Refusal :=
  match i with
  | .reset => Sys2Proof.Machine.execReset s
  | .tmrClk => Sys2Proof.Machine.execTmrClk s
  | .convDone v => Sys2Proof.Machine.execConvDone v s
  | .takeTimer => Sys2Proof.Machine.execTakeTimer s
  | .takeSample => Sys2Proof.Machine.execTakeSample s
  | .cntInc => Sys2Proof.Machine.execCntInc s
  | .cntDec => Sys2Proof.Machine.execCntDec s
  | .rdCounter => Sys2Proof.Machine.execRdCounter s
  | .rdReading => Sys2Proof.Machine.execRdReading s

end Sys2Proof.Machine
end

