-- ==== Sys2Proof/Machine/Port.lean ====
section
/-! DEFINITION. What one step does when no operation is decoded: an empty port, or a word the decoder refuses. -/

namespace Sys2Proof.Machine

/-- No word is presented: nothing in the block runs (00_scope R6). -/
def waitForWord (s : State) : Host.Outcome State Fault Refusal :=
  if configLegal s.config then .next s else .refused .badConfig

/-- A malformed word is refused whatever the state is (30_encoding R56, 60_exceptions R115), in a faulted state too
(DESIGN CHOICE against R113, assumption log 11). -/
def takeRefusal (code : RefusalCode) (s : State) : Host.Outcome State Fault Refusal :=
  if configLegal s.config then .next (refuseWord code s) else .refused .badConfig

end Sys2Proof.Machine
end

