-- ==== Sys2Proof/Machine/Step.lean ====
section
/-! DEFINITION. One step of the block: the word on the port is decoded, then run or refused (00_scope R6, 30_encoding R56). -/

namespace Sys2Proof.Machine

/-- Decoding comes before enabling (30_encoding R56); the word leaves the port with its step. -/
def step (s : State) : Host.Outcome State Fault Refusal :=
  match presentedWord s with
  | none => waitForWord s
  | some w =>
    match decode w with
    | .ok i => exec i (withdrawWord s)
    | .error code => takeRefusal code (withdrawWord s)

/-- `s` with the row's word presented next; DMUX3 fetches nothing (10_state R15), so the port is the only place for it. -/
def State.withFetchWord (s : State) (nbits w : Nat) : State := presentNext (tableWord nbits w) s

end Sys2Proof.Machine
end

