-- ==== Sys2Proof/Machine/Environment.lean ====
section
/-! DEFINITION. The agents around the block and their contracts (00_scope R7, 44_host_contract R95 to R102,
60_exceptions R117), and the pseudo-operations of 30_encoding R58, as sequences of operations and not as source text
(assumption log 21). None of it constrains a step: any agent may present the
next operation, and what the block does not allow has no step (44_host_contract R95). -/

namespace Sys2Proof.Machine

/-- The agents of 00_scope R7, with the platform that presents RESET. -/
inductive Agent where
  | main
  | timebase
  | converter
  | dispatch
  | platform
  deriving DecidableEq, Repr

/-- Who presents an operation (30_encoding R50, 44_host_contract R95). -/
def presentedBy : Instr → Agent
  | .reset => .platform
  | .tmrClk => .timebase
  | .convDone _ => .converter
  | .takeTimer => .dispatch
  | .takeSample => .dispatch
  | .cntInc => .main
  | .cntDec => .main
  | .rdCounter => .main
  | .rdReading => .main

/-- The execution contexts of 60_exceptions R117. -/
inductive Context where
  | main
  | timerHandler
  | sampleHandler
  deriving DecidableEq, Repr

/-- The context an operation runs in (60_exceptions R117); `none` for the operations of the timebase, the converter and
the platform, which run in none of the three. -/
def contextOf : Instr → Option Context
  | .reset => none
  | .tmrClk => none
  | .convDone _ => none
  | .takeTimer => some .timerHandler
  | .takeSample => some .sampleHandler
  | .cntInc => some .main
  | .cntDec => some .main
  | .rdCounter => some .main
  | .rdReading => some .main

/-- The alarm contract of 44_host_contract R99: active iff the value read from READING is greater than the value read from
COUNTER, as unsigned numbers. The line is MAIN's (R100). -/
def alarmActive (reading counter : Byte) : Bool := decide (counter < reading)

/-- WAIT_PERIOD (30_encoding R58). -/
def waitPeriod (c : Config) : List Instr := List.replicate c.reload .tmrClk

/-- PERIOD (30_encoding R58). -/
def onePeriod (c : Config) : List Instr := waitPeriod c ++ [.takeTimer]

/-- CYCLE (30_encoding R58). -/
def fullCycle (c : Config) : List Instr := onePeriod c ++ onePeriod c ++ onePeriod c

/-- SAMPLE v (30_encoding R58). -/
def samplePair (v : Byte) : List Instr := [.convDone v, .takeSample]

/-- PRESS_UP: one press-and-release of the increment button (30_encoding R58, 44_host_contract R97). -/
def pressUp : List Instr := [.cntInc]

/-- PRESS_DOWN (30_encoding R58, 44_host_contract R97). -/
def pressDown : List Instr := [.cntDec]

end Sys2Proof.Machine
end

