-- ==== Sys2Proof/Machine/Observation.lean ====
section
/-! DEFINITION. What is observed of the block (60_exceptions R121): the output pins at the instants of OUTH (10_state R28). -/

namespace Sys2Proof.Machine

/-- The values of the three output registers at one instant. -/
structure Pins where
  seg : Byte
  en : BitVec 3
  aux : BitVec 2
  deriving DecidableEq, Repr

/-- The output registers at power-on, before any event (70_reset_and_hazards R124). -/
def powerOnPins : Pins := { seg := 0x00, en := 0b000, aux := 0b00 }

/-- An event records that its register was written with its value (10_state R28). -/
def applyEvent (p : Pins) (e : OutEvent) : Pins :=
  match e with
  | .seg v => { p with seg := v }
  | .en v => { p with en := v }
  | .aux v => { p with aux := v }

/-- The registers at the instant that the events `h` lead to. The instants of OUTH are the `pinsAfter h` of the
beginnings `h` of OUTH. -/
def pinsAfter (h : List OutEvent) : Pins := h.foldl applyEvent powerOnPins

/-- The output registers of a state. -/
def pinsOf (s : State) : Pins := { seg := s.seg, en := s.en, aux := s.aux }

/-- The two auxiliary lines (10_state R21): a register of their own, or SEG[1:0]. -/
def auxLines (c : Config) (p : Pins) : BitVec 2 :=
  match c.auxMode with
  | .continuous => p.aux
  | .busShared => lowTwo p.seg

end Sys2Proof.Machine
end

