-- ==== Sys2Proof/Machine/Sequence.lean ====
section
/-! DEFINITION. Runs of the block, sequences of operations (20_memory R39: one total order of steps), and the counts of
43_timer R90 and R93 and 42_shared_state R86 along them. -/

namespace Sys2Proof.Machine

/-- `k` steps of the block, each of the word that its port then holds (00_scope R6). -/
def runSteps : Nat → State → Host.Outcome State Fault Refusal
  | 0, s => .next s
  | k + 1, s =>
    match step s with
    | .next t => runSteps k t
    | .fault r => .fault r
    | .refused r => .refused r

/-- The operations of a list, one step each; operations that are not taken are passed over (30_encoding R56). -/
def execAll : List Instr → State → Host.Outcome State Fault Refusal
  | [], s => .next s
  | i :: rest, s =>
    match exec i s with
    | .next t => execAll rest t
    | .fault r => .fault r
    | .refused r => .refused r

/-- Along a sequence of operations, how many of its steps satisfy `p` (before, operation, after). -/
def countSteps (p : State → Instr → State → Bool) : List Instr → State → Nat
  | [], _ => 0
  | i :: rest, s =>
    match exec i s with
    | .next t => (if p s i t then 1 else 0) + countSteps p rest t
    | .fault _ => 0
    | .refused _ => 0

/-- The step is an expiry of the timer: TMR_CLK takes TMR from 1 to 0 (43_timer R89). -/
def isExpiry (s : State) (i : Instr) (t : State) : Bool :=
  decide (i = .tmrClk) && decide (s.tmr = 1) && decide (t.tmr = 0)

/-- The step is a tick: TAKE_TIMER, accepted and not faulted. -/
def isTick (_ : State) (i : Instr) (t : State) : Bool :=
  decide (i = .takeTimer) && decide (t.result = .done)

/-- The step is a timer clock presented while the timer is pending (43_timer R90). -/
def isLateClock (s : State) (i : Instr) (_ : State) : Bool := decide (i = .tmrClk) && s.tif

end Sys2Proof.Machine
end

