-- ==== Sys2Proof/Safety.lean ====
section
/-! DEFINITION. What claims are stated in: the machine exists and has not faulted, the good states of 10_state R29, the
invariants of 10_state R33, the display guarantee at every instant, and the fair runs of 44_host_contract R103. -/

namespace Sys2Proof.Machine

/-- The configuration is legal (00_scope R5) and no fault is recorded (60_exceptions R113): operations can be accepted. -/
def Ready (s : State) : Prop := configLegal s.config = true ∧ s.faults = []

/-- 10_state R29: "A state with a non-empty FAULTS or with REFUSED = 1 is never a good state for any claim". -/
def Good (s : State) : Prop := s.faults = [] ∧ s.refused = false

/-- At most one digit-enable line is 1 (41_display_multiplexer R69): the legal values of 10_state R20. -/
def AtMostOneLine (en : BitVec 3) : Prop := en = 0b000 ∨ en = 0b001 ∨ en = 0b010 ∨ en = 0b100

/-- Exactly one digit-enable line is 1 (41_display_multiplexer R70). -/
def ExactlyOneLine (en : BitVec 3) : Prop := en = 0b001 ∨ en = 0b010 ∨ en = 0b100

/-- The invariants of 10_state R33, one field per line of the rule. -/
structure StateInvariant (s : State) : Prop where
  /-- PHASE is in {0, 1, 2}. -/
  phaseLegal : s.phase ≠ 3
  /-- EN is in {0b000, 0b001, 0b010, 0b100}. -/
  enLegal : AtMostOneLine s.en
  /-- In AUX_MODE CONTINUOUS, AUX = COUNTER[1:0]. -/
  auxFollows : s.config.auxMode = .continuous → s.aux = lowTwo s.counter
  /-- TIF = 1 implies TMR = 0. -/
  tifAtZero : s.tif = true → s.tmr = 0
  /-- SIF = 1 implies CBUSY = 0. -/
  sifUnarmed : s.sif = true → s.cbusy = false
  /-- CBUSY = 1 implies SIF = 0. -/
  armedNoSif : s.cbusy = true → s.sif = false

/-- What more every reachable state meets: the machine exists and has not faulted; TMR stays within RELOAD, so within
TMR_W bits, and is 0 exactly while the timer is pending (43_timer R89, R93); a conversion is armed exactly while none
waits to be published (42_shared_state R82). -/
structure RunInvariant (s : State) : Prop where
  ready : Ready s
  base : StateInvariant s
  tmrBound : s.tmr ≤ s.config.reload
  zeroIsPending : s.tmr = 0 ↔ s.tif = true
  armedOrPending : s.cbusy = !s.sif

/-- 41_display_multiplexer R69 with 10_state R28: at every instant of OUTH at most one line is 1, and the instant after the
last event is the registers' own value. -/
structure HistoryInvariant (s : State) : Prop where
  instants : ∀ h, h <+: s.outh → AtMostOneLine (pinsAfter h).en
  now : pinsAfter s.outh = pinsOf s

/-- An endless run (44_host_contract R103): operation `ops n` is the step from `st n` to `st (n + 1)`. -/
def EndlessRun (ops : Nat → Instr) (st : Nat → State) : Prop :=
  ∀ n, exec (ops n) (st n) = .next (st (n + 1))

/-- 44_host_contract R103 (a): TIMEBASE presents TMR_CLK infinitely often. -/
def FairTimebase (ops : Nat → Instr) : Prop := ∀ n, ∃ m, n ≤ m ∧ ops m = .tmrClk

/-- The handler operation of a source (60_exceptions R104). -/
def handlerOf : Source → Instr
  | .timer => .takeTimer
  | .sample => .takeSample

/-- 44_host_contract R103 (b): a handler that stays enabled is eventually taken. -/
def FairDispatch (ops : Nat → Instr) (st : Nat → State) : Prop :=
  ∀ src n, (∀ m, n ≤ m → takeable src (st m) = true) → ∃ m, n ≤ m ∧ ops m = handlerOf src

end Sys2Proof.Machine
end

