-- ==== Sys2Proof/Certificates/Slice0/Obligations.lean ====
section
/-! DEFINITION. What is claimed of DMUX3: the statements for the provers, in the order encoding, step, refusals and no-step
cases, each operation, the machine's rules, invariants, rules over sequences of operations, liveness. A result that is
written as a record update also says the frame: every field the update does not name is unchanged. -/

open Sys2Proof Sys2Proof.Machine

/-! ### Encoding -/

/-- Words written out from the opcode map (30_encoding R50) and the decode vectors V-DEC (95_test_vectors). -/
def Obligations.SpecWordsDecode : Prop :=
  decode 0b0001000000000000 = .ok .reset ∧ decode 0b0010000000000000 = .ok .tmrClk ∧
  decode 0b0011000011111111 = .ok (.convDone 0xFF) ∧ decode 0b0100000000000000 = .ok .takeTimer ∧
  decode 0b0101000000000000 = .ok .takeSample ∧ decode 0b0110000000000000 = .ok .cntInc ∧
  decode 0b0111000000000000 = .ok .cntDec ∧ decode 0b1000000000000000 = .ok .rdCounter ∧
  decode 0b1001000000000000 = .ok .rdReading ∧ decode 0x0000 = .error .reservedOpcode ∧
  decode 0xF123 = .error .reservedOpcode ∧ decode 0x1100 = .error .nonzeroReservedField ∧
  decode 0x8080 = .error .nonzeroReservedField

/-- Every operation, with every operand, is decoded from its own word. -/
def Obligations.DecodeOfEncode : Prop := ∀ i : Instr, decode (encode i) = .ok i

/-- A word that decodes is the word of the operation it decodes to: two words never spell one operation. -/
def Obligations.EncodeOfDecode : Prop := ∀ (w : Word) (i : Instr), decode w = .ok i → encode i = w

/-- 30_encoding R52. -/
def Obligations.ReservedOpcodeWords : Prop :=
  (∀ w : Word, decode w = .error .reservedOpcode ↔ (w.toNat / 4096 = 0 ∨ 10 ≤ w.toNat / 4096)) ∧
  (∀ i : Instr, 1 ≤ (encode i).toNat / 4096 ∧ (encode i).toNat / 4096 ≤ 9) ∧
  refusalNumber .reservedOpcode = 1

/-- 30_encoding R53, with the words whose RSV is not zero. R51 refuses those with code 2 "for every OP", but R55 checks OP
first, so code 2 is stated for OP 1..9 only: that R55 is followed is DEDUCED by the model (assumption log 18). -/
def Obligations.NonzeroReservedFieldWords : Prop :=
  (∀ w : Word, decode w = .error .nonzeroReservedField ↔
    (1 ≤ w.toNat / 4096 ∧ w.toNat / 4096 ≤ 9 ∧
      (w.toNat / 256 % 16 ≠ 0 ∨ (w.toNat / 4096 ≠ 3 ∧ w.toNat % 256 ≠ 0)))) ∧
  refusalNumber .nonzeroReservedField = 2

/-- 30_encoding R54: the three kinds of word, and what a refused one does (60_exceptions R115). Two points are the model's:
that a word is refused in a faulted state too, against R113's "no further step of any agent" (assumption log 11), and that
the refused word leaves the port (assumption log 7). -/
def Obligations.EveryWordIsOneOfThreeKinds : Prop :=
  (∀ w : Word, (∃ i, decode w = .ok i ∧ encode i = w) ∨ decode w = .error .reservedOpcode ∨
    decode w = .error .nonzeroReservedField) ∧
  (∀ (s : State) (w : Word) (rest : List Word) (code : RefusalCode),
    configLegal s.config = true → s.input = w :: rest → decode w = .error code →
    step s = .next { s with input := rest, refused := true, result := .refusedWord code })

/-- 30_encoding R57: the operand range of CONV_DONE, and the mnemonics that take no operand. -/
def Obligations.LinesAssemble : Prop :=
  (∀ v n : Nat, assembleLine { mnemonic := .convDone, operand := some v, count := n } =
    if v ≤ 255 then some (List.replicate n (BitVec.ofNat 16 (0x3000 + v))) else none) ∧
  (∀ n : Nat, assembleLine { mnemonic := .convDone, operand := none, count := n } = none) ∧
  (∀ (m : Mnemonic) (v n : Nat), m ≠ .convDone → assembleLine { mnemonic := m, operand := some v, count := n } = none)

/-! ### The step -/

/-- A step runs the decoded operation: the word leaves the port, and the rest of the step is `exec`. A word placed with
`withFetchWord` is the next one to run. -/
def Obligations.StepRunsDecodedOperation : Prop :=
  (∀ (s : State) (w : Word) (rest : List Word) (i : Instr), s.input = w :: rest → decode w = .ok i →
    step s = exec i { s with input := rest }) ∧
  (∀ (s : State) (w : Word) (i : Instr), decode w = .ok i → step (s.withFetchWord 16 w.toNat) = exec i s)

/-- Nothing in the block runs between two steps (00_scope R6): with no word presented the state stays. The form of an
empty port is the model's (assumption log 7). -/
def Obligations.EmptyPortWaits : Prop :=
  ∀ s : State, configLegal s.config = true → s.input = [] → step s = .next s

/-! ### Refusals, faults, no step -/

/-- 00_scope R5: exactly the configurations it lists are refused, and a refused one has no step. -/
def Obligations.BadConfigHasNoMachine : Prop :=
  (∀ c : Config, configLegal c = false ↔
    (c.tmrW = 0 ∨ c.reload = 0 ∨ c.reload > 2 ^ c.tmrW - 1 ∨ c.segTable[0] ≠ 0x3F ∨ c.segTable[5] ≠ 0x6D ∨
      ∃ n : Fin 16, (c.segTable[n]).getLsbD 7 = true)) ∧
  (∀ s : State, configLegal s.config = false →
    step s = .refused .badConfig ∧ ∀ i : Instr, exec i s = .refused .badConfig)

/-- 60_exceptions R115: a refused word sets REFUSED and nothing else, REFUSED stays 1, the block may go on, and no state
with REFUSED = 1 is good; a refused configuration has no machine. Two points are the model's: that a word is refused in a
faulted state too, against R113's "no further step of any agent" (assumption log 11), and that the refused word leaves the
port (assumption log 7). -/
def Obligations.RefusalSetsRefused : Prop :=
  (∀ (s : State) (w : Word) (rest : List Word) (code : RefusalCode),
    configLegal s.config = true → s.input = w :: rest → decode w = .error code →
    ∃ t, step s = .next t ∧ t = { s with input := rest, refused := true, result := .refusedWord code } ∧
      ¬ Good t ∧ (Ready s → Ready t)) ∧
  (∀ s t : State, step s = .next t → s.refused = true → t.refused = true) ∧
  (∀ s : State, configLegal s.config = false → step s = .refused .badConfig)

/-- 60_exceptions R116: the complete list of the cases in which a well-formed word has no step. -/
def Obligations.NoStepCases : Prop :=
  ∀ (i : Instr) (s : State), configLegal s.config = true →
    (exec i s = .next { s with result := .notTaken } ↔
      s.faults ≠ [] ∨
        match i with
        | .takeTimer => s.tif = false ∨ (s.config.irqPriority = .sampleFirst ∧ s.sif = true)
        | .takeSample => s.sif = false ∨ (s.config.irqPriority = .timerFirst ∧ s.tif = true)
        | .convDone _ => s.cbusy = false
        | _ => False)

/-- 30_encoding R56: a malformed word is refused whatever the state is, and a well-formed word whose `require` fails, or
that is presented in a faulted state, is not refused but leaves the state as it is. Two points are the model's: that R56's
"whatever the state is" takes in the faulted states, against R113's "no further step of any agent" (assumption log 11), and
that either word leaves the port (assumption log 7). -/
def Obligations.DecodingComesBeforeEnabling : Prop :=
  (∀ (s : State) (w : Word) (rest : List Word) (code : RefusalCode),
    configLegal s.config = true → s.input = w :: rest → decode w = .error code →
    ∃ t, step s = .next t ∧ t.refused = true ∧ t.result = .refusedWord code) ∧
  (∀ (s : State) (w : Word) (rest : List Word) (i : Instr),
    configLegal s.config = true → s.input = w :: rest → decode w = .ok i →
    (s.faults ≠ [] ∨
      match i with
      | .takeTimer => s.tif = false ∨ dispatchAllows .timer s = false
      | .takeSample => s.sif = false ∨ dispatchAllows .sample s = false
      | .convDone _ => s.cbusy = false
      | _ => False) →
    step s = .next { s with input := rest, result := .notTaken })

/-- 60_exceptions R112, R113: the one fault, who raises it, its effect, and that nothing runs after it. -/
def Obligations.IllegalPhaseFault : Prop :=
  (∀ s : State, Ready s → s.tif = true → (s.config.irqPriority = .sampleFirst → s.sif = false) → s.phase = 3 →
    exec .takeTimer s = .next { s with faults := [.illegalPhase], result := .faulted .illegalPhase }) ∧
  (∀ (i : Instr) (s t : State), exec i s = .next t → t.faults ≠ s.faults →
    i = .takeTimer ∧ s.phase = 3 ∧ t = { s with faults := [.illegalPhase], result := .faulted .illegalPhase }) ∧
  (∀ (i : Instr) (s : State), configLegal s.config = true → s.faults ≠ [] →
    exec i s = .next { s with result := .notTaken } ∧ ¬ Good s) ∧
  faultNumber .illegalPhase = 1

/-! ### The operations -/

/-- 70_reset_and_hazards R123. The two drawn values are free: nothing but their existence is said of them. -/
def Obligations.ResetResult : Prop :=
  (∀ s : State, Ready s → ∃ (r a : Byte) (n : Nat),
    exec .reset s = .next
      { s with
        counter := 0x00
        reading := match s.config.readingReset with
          | some v => v
          | none => r
        phase := BitVec.ofNat 2 s.config.phaseReset.val
        en := 0b000
        seg := 0x00
        aux := if s.config.auxMode = .continuous then 0b00 else s.aux
        tmr := s.config.reload
        tif := false
        adres := a
        sif := false
        cbusy := true
        outh := s.outh ++ [.en 0b000, .seg 0x00] ++ (if s.config.auxMode = .continuous then [.aux 0b00] else [])
        result := .done
        draws := n }) ∧
  (∀ s : State, configLegal s.config = true → s.faults ≠ [] →
    exec .reset s = .next { s with result := .notTaken })

/-- 70_reset_and_hazards R124: the power-on state is what RESET gives from any state, with OUTH empty, FAULTS empty,
REFUSED = 0 and the output registers at their start values (the model's own fields aside). -/
def Obligations.PowerOnIsResetFromAnyState : Prop :=
  (∀ s : State, Ready s → ∃ (r a : Byte) (t : State), exec .reset s = .next t ∧
    { t with outh := [], faults := [], refused := false, aux := 0b00, input := [], result := .idle, draws := 0 } =
      State.powerOn s.config r a) ∧
  (∀ (c : Config) (r a : Byte), (State.powerOn c r a).seg = 0x00 ∧ (State.powerOn c r a).en = 0b000 ∧
    (State.powerOn c r a).aux = 0b00 ∧ (State.powerOn c r a).outh = [])

/-- 43_timer R88. -/
def Obligations.TimerClockResult : Prop :=
  ∀ s : State, Ready s →
    (s.tmr = 0 → exec .tmrClk s = .next { s with result := .done }) ∧
    (s.tmr = 1 → exec .tmrClk s = .next { s with tmr := 0, tif := true, result := .done }) ∧
    (∀ n, s.tmr = n + 2 → exec .tmrClk s = .next { s with tmr := n + 1, result := .done })

/-- 42_shared_state R75. -/
def Obligations.ConvDoneResult : Prop :=
  ∀ (s : State) (v : Byte), Ready s →
    (s.cbusy = true →
      exec (.convDone v) s = .next { s with adres := v, cbusy := false, sif := true, result := .done }) ∧
    (s.cbusy = false → exec (.convDone v) s = .next { s with result := .notTaken })

/-- 42_shared_state R76. -/
def Obligations.TakeSampleResult : Prop :=
  ∀ s : State, Ready s →
    (s.sif = true → (s.config.irqPriority = .timerFirst → s.tif = false) →
      exec .takeSample s = .next { s with sif := false, reading := s.adres, cbusy := true, result := .done }) ∧
    ((s.sif = false ∨ (s.config.irqPriority = .timerFirst ∧ s.tif = true)) →
      exec .takeSample s = .next { s with result := .notTaken })

/-- 42_shared_state R77. -/
def Obligations.CntIncResult : Prop :=
  ∀ s : State, Ready s →
    (s.config.auxMode = .continuous → exec .cntInc s = .next
      { s with
        counter := BitVec.ofNat 8 ((s.counter.toNat + 1) % 256)
        aux := BitVec.ofNat 2 ((s.counter.toNat + 1) % 4)
        outh := s.outh ++ [.aux (BitVec.ofNat 2 ((s.counter.toNat + 1) % 4))]
        result := .done }) ∧
    (s.config.auxMode = .busShared → exec .cntInc s = .next
      { s with counter := BitVec.ofNat 8 ((s.counter.toNat + 1) % 256), result := .done })

/-- 42_shared_state R78. -/
def Obligations.CntDecResult : Prop :=
  (∀ s : State, Ready s →
    (s.config.auxMode = .continuous → exec .cntDec s = .next
      { s with
        counter := BitVec.ofNat 8 ((s.counter.toNat + 255) % 256)
        aux := BitVec.ofNat 2 ((s.counter.toNat + 255) % 4)
        outh := s.outh ++ [.aux (BitVec.ofNat 2 ((s.counter.toNat + 255) % 4))]
        result := .done }) ∧
    (s.config.auxMode = .busShared → exec .cntDec s = .next
      { s with counter := BitVec.ofNat 8 ((s.counter.toNat + 255) % 256), result := .done })) ∧
  (∀ s t u : State, Ready s → exec .cntInc s = .next t → exec .cntDec t = .next u → u.counter = s.counter)

/-- 42_shared_state R79: the read, and that only CNT_INC, CNT_DEC and RESET change what it returns. -/
def Obligations.RdCounterResult : Prop :=
  (∀ s : State, Ready s → exec .rdCounter s = .next { s with result := .returned s.counter }) ∧
  (∀ (i : Instr) (s t : State), exec i s = .next t → i ≠ .cntInc → i ≠ .cntDec → i ≠ .reset →
    t.counter = s.counter)

/-- 42_shared_state R80: the read, what it returns from power-on until the first TAKE_SAMPLE, what it returns after a
TAKE_SAMPLE, and that nothing but TAKE_SAMPLE and RESET changes it. -/
def Obligations.RdReadingResult : Prop :=
  (∀ s : State, Ready s → exec .rdReading s = .next { s with result := .returned s.reading }) ∧
  (∀ (c : Config) (r a : Byte) (ops : List Instr) (t : State), configLegal c = true → .takeSample ∉ ops → .reset ∉ ops →
    execAll ops (State.powerOn c r a) = .next t →
    exec .rdReading t = .next
      { t with
        result := .returned
          (match c.readingReset with
          | some x => x
          | none => r) }) ∧
  (∀ s t : State, exec .takeSample s = .next t → t.result = .done →
    exec .rdReading t = .next { t with result := .returned s.adres }) ∧
  (∀ (i : Instr) (s t : State), exec i s = .next t → i ≠ .takeSample → i ≠ .reset → t.reading = s.reading)

/-- 41_display_multiplexer R60, R74: the tick that renders phase 0 drives the raw COUNTER, under both tick orders. -/
def Obligations.TickRendersPhase0 : Prop :=
  ∀ s : State, Ready s → s.tif = true → (s.config.irqPriority = .sampleFirst → s.sif = false) →
    ((s.config.tickOrder = .renderThenAdvance ∧ s.phase = 0) ∨ (s.config.tickOrder = .advanceThenRender ∧ s.phase = 2)) →
    exec .takeTimer s = .next
      { s with
        tif := false
        seg := s.counter
        en := 0b001
        phase := if s.config.tickOrder = .renderThenAdvance then 1 else 0
        tmr := s.config.reload
        outh := s.outh ++ [.en 0b000, .seg s.counter, .en 0b001]
        result := .done }

/-- 41_display_multiplexer R61: the tick that renders phase 1 drives the pattern of READING's low nibble. -/
def Obligations.TickRendersPhase1 : Prop :=
  ∀ s : State, Ready s → s.tif = true → (s.config.irqPriority = .sampleFirst → s.sif = false) →
    ((s.config.tickOrder = .renderThenAdvance ∧ s.phase = 1) ∨ (s.config.tickOrder = .advanceThenRender ∧ s.phase = 0)) →
    ∀ pat : Byte, s.config.segTable[s.reading.toNat % 16]? = some pat →
    exec .takeTimer s = .next
      { s with
        tif := false
        seg := pat
        en := 0b010
        phase := if s.config.tickOrder = .renderThenAdvance then 2 else 1
        tmr := s.config.reload
        outh := s.outh ++ [.en 0b000, .seg pat, .en 0b010]
        result := .done }

/-- 41_display_multiplexer R62: the tick that renders phase 2 drives the pattern of READING's high nibble. -/
def Obligations.TickRendersPhase2 : Prop :=
  ∀ s : State, Ready s → s.tif = true → (s.config.irqPriority = .sampleFirst → s.sif = false) →
    ((s.config.tickOrder = .renderThenAdvance ∧ s.phase = 2) ∨ (s.config.tickOrder = .advanceThenRender ∧ s.phase = 1)) →
    ∀ pat : Byte, s.config.segTable[s.reading.toNat / 16]? = some pat →
    exec .takeTimer s = .next
      { s with
        tif := false
        seg := pat
        en := 0b100
        phase := if s.config.tickOrder = .renderThenAdvance then 0 else 2
        tmr := s.config.reload
        outh := s.outh ++ [.en 0b000, .seg pat, .en 0b100]
        result := .done }

/-- 41_display_multiplexer R66: blank, then drive, then select, and nothing else on the outputs. -/
def Obligations.BlankDriveSelect : Prop :=
  ∀ s t : State, exec .takeTimer s = .next t → t.result = .done →
    ∃ (pat : Byte) (p : Nat), p < 3 ∧ t.outh = s.outh ++ [.en 0b000, .seg pat, .en (1#3 <<< p)] ∧
      t.seg = pat ∧ t.en = 1#3 <<< p

/-- 41_display_multiplexer R65: one step modulo 3 per tick, no other change but RESET's, and no terminal phase: a takeable
timer handler ticks from every phase of the sequence. -/
def Obligations.PhaseSequence : Prop :=
  (∀ s t : State, exec .takeTimer s = .next t → t.result = .done →
    s.phase.toNat < 3 ∧ t.phase.toNat = (s.phase.toNat + 1) % 3) ∧
  (∀ (i : Instr) (s t : State), exec i s = .next t → t.phase ≠ s.phase →
    i = .reset ∨ (i = .takeTimer ∧ t.result = .done)) ∧
  (∀ s : State, Ready s → takeable .timer s = true → s.phase.toNat < 3 →
    ∃ t, exec .takeTimer s = .next t ∧ t.result = .done)

/-- 41_display_multiplexer R63, R64, 10_state R19: entries 0 and 5, and bit 7 of every digit the display is given. -/
def Obligations.DigitPatterns : Prop :=
  (∀ c : Config, configLegal c = true → encodeDigit c 0 = 0x3F ∧ encodeDigit c 5 = 0x6D ∧
    ∀ n : Nibble, (encodeDigit c n).getLsbD 7 = false) ∧
  (∀ s t : State, exec .takeTimer s = .next t → t.result = .done → t.en ≠ 0b001 → t.seg.getLsbD 7 = false)

/-! ### Interrupts -/

/-- 60_exceptions R106: which pending handler may be taken. -/
def Obligations.DispatchOrder : Prop :=
  (∀ s : State, dispatchAllows .timer s = true ↔ (s.config.irqPriority ≠ .sampleFirst ∨ s.sif = false)) ∧
  (∀ s : State, dispatchAllows .sample s = true ↔ (s.config.irqPriority ≠ .timerFirst ∨ s.tif = false)) ∧
  (∀ s : State, Ready s → s.phase ≠ 3 → s.tif = true → s.sif = true →
    ((∃ t, exec .takeTimer s = .next t ∧ t.result = .done) ↔ s.config.irqPriority ≠ .sampleFirst) ∧
    ((∃ t, exec .takeSample s = .next t ∧ t.result = .done) ↔ s.config.irqPriority ≠ .timerFirst))

/-- 60_exceptions R111: with both sources pending and no order between them, both orders run, and a tick of phase 1 or 2
shows the new READING after the sample handler and the old one before it. -/
def Obligations.HandlerOrderIsObservable : Prop :=
  ∀ s : State, Ready s → s.config.irqPriority = .unordered → s.tif = true → s.sif = true →
    (renderedPhase s = 1 ∨ renderedPhase s = 2) → s.phase ≠ 3 →
    ∃ t u : State, execAll [.takeSample, .takeTimer] s = .next t ∧ execAll [.takeTimer, .takeSample] s = .next u ∧
      t.reading = s.adres ∧ u.reading = s.adres ∧
      (renderedPhase s = 1 → t.seg = encodeDigit s.config (lowNibble s.adres) ∧
        u.seg = encodeDigit s.config (lowNibble s.reading)) ∧
      (renderedPhase s = 2 → t.seg = encodeDigit s.config (highNibble s.adres) ∧
        u.seg = encodeDigit s.config (highNibble s.reading))

/-! ### Who writes what -/

/-- 10_state R13 (its column 'written by', with 70_reset_and_hazards R123 for ADRES) and R30: the single-writer contract. -/
def Obligations.SingleWriter : Prop :=
  ∀ (i : Instr) (s t : State), exec i s = .next t →
    (t.counter ≠ s.counter → i = .cntInc ∨ i = .cntDec ∨ i = .reset) ∧
    (t.reading ≠ s.reading → i = .takeSample ∨ i = .reset) ∧
    (t.phase ≠ s.phase → i = .takeTimer ∨ i = .reset) ∧
    (t.seg ≠ s.seg → i = .takeTimer ∨ i = .reset) ∧
    (t.en ≠ s.en → i = .takeTimer ∨ i = .reset) ∧
    (t.aux ≠ s.aux → (i = .cntInc ∨ i = .cntDec ∨ i = .reset) ∧ s.config.auxMode = .continuous) ∧
    (t.tmr ≠ s.tmr → i = .tmrClk ∨ i = .takeTimer ∨ i = .reset) ∧
    (t.tif ≠ s.tif → i = .tmrClk ∨ i = .takeTimer ∨ i = .reset) ∧
    (t.adres ≠ s.adres → (∃ v, i = .convDone v) ∨ i = .reset) ∧
    (t.sif ≠ s.sif → (∃ v, i = .convDone v) ∨ i = .takeSample ∨ i = .reset) ∧
    (t.cbusy ≠ s.cbusy → (∃ v, i = .convDone v) ∨ i = .takeSample ∨ i = .reset) ∧
    (t.faults ≠ s.faults → i = .takeTimer) ∧
    t.refused = s.refused ∧ t.input = s.input ∧ t.config = s.config ∧ s.outh <+: t.outh

/-- 42_shared_state R81 with 20_memory R37: one step writes a whole byte or nothing, so a cell holds its old value or the
new fully formed one, and a read returns what the cell holds. -/
def Obligations.SharedCellsAreNeverTorn : Prop :=
  (∀ (i : Instr) (s t : State), exec i s = .next t → i ≠ .reset →
    (t.reading = s.reading ∨ (i = .takeSample ∧ t.reading = s.adres)) ∧
    (t.counter = s.counter ∨ (i = .cntInc ∧ t.counter = s.counter + 1) ∨ (i = .cntDec ∧ t.counter = s.counter - 1))) ∧
  (∀ (v : Byte) (s t : State), exec (.convDone v) s = .next t → t.adres = s.adres ∨ t.adres = v) ∧
  (∀ (s t : State) (v : Byte), exec .rdCounter s = .next t → t.result = .returned v → v = s.counter) ∧
  (∀ (s t : State) (v : Byte), exec .rdReading s = .next t → t.result = .returned v → v = s.reading)

/-- The configuration is a parameter and not state (10_state R13, 43_timer R92): no step changes it. That it stands in a
field is the model's choice (assumption log 1). -/
def Obligations.ConfigurationIsConstant : Prop := ∀ s t : State, step s = .next t → t.config = s.config

/-! ### Invariants -/

/-- Power-on meets every invariant, under every legal configuration and whatever READING and ADRES come up as. -/
def Obligations.PowerOnMeetsInvariants : Prop :=
  (∀ (c : Config) (r a : Byte), configLegal c = true →
    RunInvariant (State.powerOn c r a) ∧ HistoryInvariant (State.powerOn c r a)) ∧
  RunInvariant State.reset ∧ HistoryInvariant State.reset

/-- 70_reset_and_hazards R133: the invariants of 10_state R33 hold after any RESET, and every operation keeps them. -/
def Obligations.OperationsKeepStateInvariant : Prop :=
  (∀ s t : State, exec .reset s = .next t → t.result = .done → StateInvariant t) ∧
  (∀ (i : Instr) (s t : State), StateInvariant s → exec i s = .next t → StateInvariant t)

/-- Every step, of any word or none, keeps the invariant of the reachable states: no fault is ever recorded, TMR stays
within RELOAD and is 0 exactly while the timer is pending, and a conversion is armed exactly while none is unpublished. -/
def Obligations.StepKeepsRunInvariant : Prop :=
  ∀ s t : State, RunInvariant s → step s = .next t → RunInvariant t

/-- Every step keeps mutual exclusion at every instant of OUTH, and OUTH goes on accounting for the output registers. -/
def Obligations.StepKeepsHistoryInvariant : Prop :=
  ∀ s t : State, HistoryInvariant s → step s = .next t → HistoryInvariant t

/-- 41_display_multiplexer R69 and 10_state R33 over every run from power-on: whatever words the environment presents, at
every instant at most one digit line is 1, the invariants hold, no fault is recorded and TMR fits in its TMR_W bits. -/
def Obligations.EveryRunIsMutuallyExclusive : Prop :=
  ∀ (c : Config) (r a : Byte) (words : List Word) (k : Nat) (t : State), configLegal c = true →
    runSteps k { State.powerOn c r a with input := words } = .next t →
    (∀ h, h <+: t.outh → AtMostOneLine (pinsAfter h).en) ∧ pinsAfter t.outh = pinsOf t ∧
      StateInvariant t ∧ t.faults = [] ∧ t.tmr < 2 ^ c.tmrW

/-- From power-on the machine never stops: every run of every length has a last state. -/
def Obligations.NoRunStops : Prop :=
  ∀ (c : Config) (r a : Byte) (words : List Word) (k : Nat), configLegal c = true →
    ∃ t : State, runSteps k { State.powerOn c r a with input := words } = .next t

/-- 10_state R25: ADRES is never read before it is written, so two runs from power-on that differ only in what ADRES comes
up as never differ in anything else, nor in ADRES once a result waits to be published. -/
def Obligations.PowerOnAdresIsNeverSeen : Prop :=
  ∀ (c : Config) (r a b : Byte) (words : List Word) (k : Nat) (t u : State), configLegal c = true →
    runSteps k { State.powerOn c r a with input := words } = .next t →
    runSteps k { State.powerOn c r b with input := words } = .next u →
    u = { t with adres := u.adres } ∧ (t.sif = true → u.adres = t.adres)

/-- 41_display_multiplexer R70. -/
def Obligations.OneLineAfterEveryTick : Prop :=
  (∀ s t : State, exec .takeTimer s = .next t → t.result = .done → ExactlyOneLine t.en) ∧
  (∀ (s t u : State) (ops : List Instr), exec .reset s = .next t → t.result = .done →
    execAll ops t = .next u → countSteps isTick ops t = 0 → u.en = 0b000)

/-- 10_state R21, under both wirings. -/
def Obligations.AuxLinesFollowMode : Prop :=
  (∀ (c : Config) (r a : Byte), (State.powerOn c r a).aux = 0b00 ∧
    (State.powerOn c r a).aux = lowTwo (State.powerOn c r a).counter) ∧
  (∀ (i : Instr) (s t : State), s.config.auxMode = .continuous → s.aux = lowTwo s.counter → exec i s = .next t →
    t.aux = lowTwo t.counter) ∧
  (∀ (i : Instr) (s t : State), s.config.auxMode = .continuous → (i = .cntInc ∨ i = .cntDec ∨ i = .reset) →
    exec i s = .next t → t.result = .done →
    t.outh.getLast? = some (.aux (lowTwo t.counter)) ∧ auxLines t.config (pinsOf t) = lowTwo t.counter) ∧
  (∀ (i : Instr) (s t : State), s.config.auxMode = .busShared → exec i s = .next t →
    (∀ p : Pins, auxLines t.config p = lowTwo p.seg) ∧ auxLines t.config (pinsOf t) = lowTwo t.seg ∧ t.aux = s.aux ∧
      ∀ v : BitVec 2, t.outh.count (.aux v) = s.outh.count (.aux v))

/-! ### Sequences of operations -/

/-- 42_shared_state R85. -/
def Obligations.CounterLaws : Prop :=
  ∀ s : State, Ready s →
    (∀ n : Nat, ∃ t, execAll (List.replicate n .cntInc) s = .next t ∧
      t.counter.toNat = (s.counter.toNat + n) % 256) ∧
    (∀ n : Nat, ∃ t, execAll (List.replicate n .cntDec) s = .next t ∧
      (t.counter.toNat + n) % 256 = s.counter.toNat) ∧
    (∃ t, execAll (List.replicate 256 .cntInc) s = .next t ∧ t.counter = s.counter) ∧
    (s.counter = 0 → ∃ t, exec .cntDec s = .next t ∧ t.counter = 255) ∧
    (s.counter = 255 → ∃ t, exec .cntInc s = .next t ∧ t.counter = 0)

/-- 42_shared_state R86: the presses since the last RESET decide COUNTER. -/
def Obligations.PressesDecideCounter : Prop :=
  (∀ s t : State, Ready s → exec .cntInc s = .next t → t.counter = s.counter + 1) ∧
  (∀ s t : State, Ready s → exec .cntDec s = .next t → t.counter = s.counter - 1) ∧
  (∀ (i : Instr) (s t : State), exec i s = .next t → t.counter ≠ s.counter →
    i = .cntInc ∨ i = .cntDec ∨ i = .reset) ∧
  (∀ (s t u : State) (ops : List Instr), exec .reset s = .next t → t.result = .done → .reset ∉ ops →
    execAll ops t = .next u →
    u.counter = BitVec.ofNat 8 (ops.count .cntInc) - BitVec.ofNat 8 (ops.count .cntDec))

/-- 43_timer R89: the expiring clock, TMR held at 0, and exactly RELOAD clocks from a reload to the next expiry. -/
def Obligations.ExpiryAfterReload : Prop :=
  (∀ s : State, Ready s → s.tmr = 1 → exec .tmrClk s = .next { s with tmr := 0, tif := true, result := .done }) ∧
  (∀ (i : Instr) (s t : State), exec i s = .next t → s.tif = false → t.tif = true → i = .tmrClk ∧ s.tmr = 1) ∧
  (∀ (s t : State) (ops : List Instr), s.tmr = 0 → .reset ∉ ops → countSteps isTick ops s = 0 →
    execAll ops s = .next t → t.tmr = 0) ∧
  (∀ (s t u : State) (ops : List Instr), exec .takeTimer s = .next t → t.result = .done → .reset ∉ ops →
    execAll ops t = .next u → ops.count .tmrClk < t.config.reload →
    u.tif = false ∧ u.tmr + ops.count .tmrClk = t.config.reload ∧ countSteps isExpiry ops t = 0) ∧
  (∀ (s t u : State) (ops : List Instr), exec .takeTimer s = .next t → t.result = .done → .reset ∉ ops →
    execAll (ops ++ [.tmrClk]) t = .next u → ops.count .tmrClk + 1 = t.config.reload →
    u.tif = true ∧ u.tmr = 0 ∧ countSteps isExpiry (ops ++ [.tmrClk]) t = 1)

/-- 43_timer R91: the first expiry after RESET, and no tick before it. -/
def Obligations.FirstExpiryAfterReset : Prop :=
  ∀ s t : State, exec .reset s = .next t → t.result = .done →
    t.tmr = t.config.reload ∧ t.tif = false ∧
    (∀ (u : State) (ops : List Instr), .reset ∉ ops → execAll ops t = .next u →
      ops.count .tmrClk < t.config.reload → u.tif = false ∧ countSteps isTick ops t = 0) ∧
    (∀ (u : State) (ops : List Instr), .reset ∉ ops → execAll (ops ++ [.tmrClk]) t = .next u →
      ops.count .tmrClk + 1 = t.config.reload → u.tif = true ∧ countSteps isTick (ops ++ [.tmrClk]) t = 0)

/-- 43_timer R90: the clocks between two ticks are RELOAD and the late ones, so at least RELOAD. -/
def Obligations.PeriodIsReloadPlusLatency : Prop :=
  ∀ (s t u v : State) (ops : List Instr),
    exec .takeTimer s = .next t → t.result = .done → .reset ∉ ops → execAll ops t = .next u →
    countSteps isTick ops t = 0 → exec .takeTimer u = .next v → v.result = .done →
    ops.count .tmrClk = t.config.reload + countSteps isLateClock ops t ∧ t.config.reload ≤ ops.count .tmrClk

/-- 43_timer R93: no expiry is lost and none is counted twice. -/
def Obligations.OneTickPerExpiry : Prop :=
  (∀ (s t : State) (ops : List Instr), RunInvariant s → .reset ∉ ops → execAll ops s = .next t →
    countSteps isTick ops s + t.tif.toNat = countSteps isExpiry ops s + s.tif.toNat) ∧
  (∀ (s t u v : State) (ops : List Instr), RunInvariant s → .reset ∉ ops →
    exec .takeTimer s = .next t → t.result = .done → execAll ops t = .next u → countSteps isTick ops t = 0 →
    exec .takeTimer u = .next v → v.result = .done → countSteps isExpiry ops t = 1) ∧
  (∀ (s t u v : State) (ops : List Instr), RunInvariant s → .reset ∉ ops →
    exec .tmrClk s = .next t → isExpiry s .tmrClk t = true → execAll ops t = .next u →
    countSteps isExpiry ops t = 0 → exec .tmrClk u = .next v → isExpiry u .tmrClk v = true →
    countSteps isTick ops t = 1)

/-- 41_display_multiplexer R71: three consecutive ticks with no RESET between them. -/
def Obligations.RoundRobin : Prop :=
  ∀ (s t₁ u₁ t₂ u₂ t₃ : State) (ops₁ ops₂ : List Instr),
    exec .takeTimer s = .next t₁ → t₁.result = .done →
    .reset ∉ ops₁ → execAll ops₁ t₁ = .next u₁ → countSteps isTick ops₁ t₁ = 0 →
    exec .takeTimer u₁ = .next t₂ → t₂.result = .done →
    .reset ∉ ops₂ → execAll ops₂ t₂ = .next u₂ → countSteps isTick ops₂ t₂ = 0 →
    exec .takeTimer u₂ = .next t₃ → t₃.result = .done →
    (s.config.tickOrder = .renderThenAdvance →
      t₁.en = 1#3 <<< s.phase.toNat ∧ t₂.en = 1#3 <<< ((s.phase.toNat + 1) % 3) ∧
        t₃.en = 1#3 <<< ((s.phase.toNat + 2) % 3)) ∧
    (s.config.tickOrder = .advanceThenRender →
      t₁.en = 1#3 <<< ((s.phase.toNat + 1) % 3) ∧ t₂.en = 1#3 <<< ((s.phase.toNat + 2) % 3) ∧
        t₃.en = 1#3 <<< s.phase.toNat) ∧
    List.Perm [t₁.en, t₂.en, t₃.en] [0b001, 0b010, 0b100]

/-- 70_reset_and_hazards R126: dark from RESET until the first tick; the first three ticks select each digit once; with
PHASE_RESET = 0 and RENDER_THEN_ADVANCE digit 0 is lit first, then 1, then 2. -/
def Obligations.FirstTicksAfterReset : Prop :=
  ∀ (s t₀ u₀ t₁ u₁ t₂ u₂ t₃ : State) (ops₀ ops₁ ops₂ : List Instr),
    exec .reset s = .next t₀ → t₀.result = .done →
    .reset ∉ ops₀ → execAll ops₀ t₀ = .next u₀ → countSteps isTick ops₀ t₀ = 0 →
    exec .takeTimer u₀ = .next t₁ → t₁.result = .done →
    .reset ∉ ops₁ → execAll ops₁ t₁ = .next u₁ → countSteps isTick ops₁ t₁ = 0 →
    exec .takeTimer u₁ = .next t₂ → t₂.result = .done →
    .reset ∉ ops₂ → execAll ops₂ t₂ = .next u₂ → countSteps isTick ops₂ t₂ = 0 →
    exec .takeTimer u₂ = .next t₃ → t₃.result = .done →
    t₀.en = 0b000 ∧ u₀.en = 0b000 ∧ List.Perm [t₁.en, t₂.en, t₃.en] [0b001, 0b010, 0b100] ∧
    (s.config.phaseReset = 0 → s.config.tickOrder = .renderThenAdvance →
      t₁.en = 0b001 ∧ t₂.en = 0b010 ∧ t₃.en = 0b100)

/-- 41_display_multiplexer R72: between two ticks the display shows what the last one computed, whatever is written. -/
def Obligations.DisplayHoldsBetweenTicks : Prop :=
  ∀ (s t : State) (ops : List Instr), .reset ∉ ops → execAll ops s = .next t → countSteps isTick ops s = 0 →
    t.seg = s.seg ∧ t.en = s.en ∧ t.phase = s.phase

/-- 42_shared_state R82: a latched result waits, unchanged, until TAKE_SAMPLE publishes it. -/
def Obligations.LatchedResultIsPublished : Prop :=
  ∀ (s t u : State) (ops : List Instr), s.sif = true → s.cbusy = false → .reset ∉ ops → .takeSample ∉ ops →
    execAll ops s = .next t → exec .takeSample t = .next u →
    t.adres = s.adres ∧ t.sif = true ∧ t.cbusy = false ∧ (u.result = .done → u.reading = s.adres)

/-- 42_shared_state R84: without further completions READING stays, and the ticks still complete. -/
def Obligations.StaleReading : Prop :=
  ∀ (s t : State) (ops : List Instr), Ready s → s.sif = false → .reset ∉ ops → (∀ v, .convDone v ∉ ops) →
    execAll ops s = .next t →
    t.reading = s.reading ∧ t.sif = false ∧
      (t.tif = true → t.phase ≠ 3 → t.faults = [] → ∃ u, exec .takeTimer t = .next u ∧ u.result = .done ∧
        u.reading = s.reading)

/-- 30_encoding R58: what WAIT_PERIOD, PERIOD, CYCLE and SAMPLE v come to, started where the rule says they work. -/
def Obligations.PseudoOperationsWork : Prop :=
  (∀ s : State, Ready s → s.tmr = s.config.reload → s.tif = false →
    execAll (waitPeriod s.config) s = .next { s with tmr := 0, tif := true, result := .done }) ∧
  (∀ s : State, Ready s → s.tmr = s.config.reload → s.tif = false → s.phase ≠ 3 →
    (s.config.irqPriority = .sampleFirst → s.sif = false) →
    (∃ t, execAll (onePeriod s.config) s = .next t ∧ t.tmr = s.config.reload ∧ t.tif = false ∧
      t.phase.toNat = (s.phase.toNat + 1) % 3 ∧ ExactlyOneLine t.en ∧ countSteps isTick (onePeriod s.config) s = 1) ∧
    (∃ t, execAll (fullCycle s.config) s = .next t ∧ t.tmr = s.config.reload ∧ t.tif = false ∧ t.phase = s.phase ∧
      countSteps isTick (fullCycle s.config) s = 3)) ∧
  (∀ (s : State) (v : Byte), Ready s → s.cbusy = true → (s.config.irqPriority = .timerFirst → s.tif = false) →
    execAll (samplePair v) s =
      .next { s with adres := v, reading := v, sif := false, cbusy := true, result := .done })

/-! ### Liveness -/

/-- 44_host_contract R103: on a fair endless run without a RESET every digit is refreshed infinitely often, where the
dispatch order does not put the sample handler first (under SAMPLE_FIRST the two fairness assumptions do not suffice:
completions that keep coming disable TAKE_TIMER again and again). -/
def Obligations.EveryDigitIsRefreshedForever : Prop :=
  ∀ (ops : Nat → Instr) (st : Nat → State), RunInvariant (st 0) → EndlessRun ops st → (∀ n, ops n ≠ .reset) →
    FairTimebase ops → FairDispatch ops st → (st 0).config.irqPriority ≠ .sampleFirst →
    ∀ (d : Nat) (n : Nat), d < 3 →
      ∃ m, n ≤ m ∧ ops m = .takeTimer ∧ (st (m + 1)).result = .done ∧ (st (m + 1)).en = 1#3 <<< d
end

