-- ==== Sys2Proof/Laws/Decode.lean ====
section
/-! SUPPORT. The fields of an operation word as numbers, and the fields of the words the encoder makes. -/

namespace Sys2Proof

theorem opField_toNat (w : Word) : (opField w).toNat = w.toNat / 4096 := by
  simp only [opField, BitVec.extractLsb'_toNat, Nat.shiftRight_eq_div_pow]
  omega

theorem rsvField_toNat (w : Word) : (rsvField w).toNat = w.toNat / 256 % 16 := by
  simp [rsvField, BitVec.extractLsb'_toNat, Nat.shiftRight_eq_div_pow]

theorem immField_toNat (w : Word) : (immField w).toNat = w.toNat % 256 := by
  simp [immField, BitVec.extractLsb'_toNat]

/-- The three fields are the whole word (30_encoding R47). -/
theorem word_of_fields (w : Word) : w.toNat = (opField w).toNat * 4096 + (rsvField w).toNat * 256 + (immField w).toNat := by
  rw [opField_toNat, rsvField_toNat, immField_toNat]
  omega

theorem opField_encode_convDone : ∀ v : Byte, opField (encode (.convDone v)) = 3 := by decide

theorem rsvField_encode_convDone : ∀ v : Byte, rsvField (encode (.convDone v)) = 0 := by decide

theorem immField_encode_convDone : ∀ v : Byte, immField (encode (.convDone v)) = v := by decide

/-- The first check of `decode`, on numbers. -/
theorem reserved_iff (w : Word) :
    (opField w = 0 ∨ 0xA#4 ≤ opField w) ↔ (w.toNat / 4096 = 0 ∨ 10 ≤ w.toNat / 4096) := by
  rw [← opField_toNat, BitVec.le_def, ← BitVec.toNat_inj]
  simp

/-- Past the first and third check of `decode`, every OP names an operation. -/
theorem plainOperation_total {op : Nibble} (h : ¬ (op = 0 ∨ 0xA#4 ≤ op)) (h3 : op ≠ 3) :
    ∃ i, plainOperation op = .ok i := by
  have key : ∀ op : Nibble, ¬ (op = 0 ∨ 0xA#4 ≤ op) → op ≠ 3 → (plainOperation op).isOk = true := by decide
  have hk := key op h h3
  cases hp : plainOperation op with
  | ok i => exact ⟨i, rfl⟩
  | error code => simp [hp, Except.isOk, Except.toBool] at hk

end Sys2Proof
end

