-- ==== Sys2Proof/Laws/State.lean ====
section
/-! SUPPORT. What each shared update of State leaves in each field. -/

namespace Sys2Proof.Machine

/-! ### withdrawWord -/

@[simp] theorem withdrawWord_counter (s : State) : (withdrawWord s).counter = s.counter := rfl
@[simp] theorem withdrawWord_reading (s : State) : (withdrawWord s).reading = s.reading := rfl
@[simp] theorem withdrawWord_phase (s : State) : (withdrawWord s).phase = s.phase := rfl
@[simp] theorem withdrawWord_seg (s : State) : (withdrawWord s).seg = s.seg := rfl
@[simp] theorem withdrawWord_en (s : State) : (withdrawWord s).en = s.en := rfl
@[simp] theorem withdrawWord_aux (s : State) : (withdrawWord s).aux = s.aux := rfl
@[simp] theorem withdrawWord_tmr (s : State) : (withdrawWord s).tmr = s.tmr := rfl
@[simp] theorem withdrawWord_tif (s : State) : (withdrawWord s).tif = s.tif := rfl
@[simp] theorem withdrawWord_adres (s : State) : (withdrawWord s).adres = s.adres := rfl
@[simp] theorem withdrawWord_sif (s : State) : (withdrawWord s).sif = s.sif := rfl
@[simp] theorem withdrawWord_cbusy (s : State) : (withdrawWord s).cbusy = s.cbusy := rfl
@[simp] theorem withdrawWord_outh (s : State) : (withdrawWord s).outh = s.outh := rfl
@[simp] theorem withdrawWord_faults (s : State) : (withdrawWord s).faults = s.faults := rfl
@[simp] theorem withdrawWord_refused (s : State) : (withdrawWord s).refused = s.refused := rfl
@[simp] theorem withdrawWord_config (s : State) : (withdrawWord s).config = s.config := rfl
@[simp] theorem withdrawWord_input (s : State) : (withdrawWord s).input = s.input.tail := rfl
@[simp] theorem withdrawWord_result (s : State) : (withdrawWord s).result = s.result := rfl
@[simp] theorem withdrawWord_draws (s : State) : (withdrawWord s).draws = s.draws := rfl

/-! ### presentNext -/

@[simp] theorem presentNext_counter (w : Word) (s : State) : (presentNext w s).counter = s.counter := rfl
@[simp] theorem presentNext_reading (w : Word) (s : State) : (presentNext w s).reading = s.reading := rfl
@[simp] theorem presentNext_phase (w : Word) (s : State) : (presentNext w s).phase = s.phase := rfl
@[simp] theorem presentNext_seg (w : Word) (s : State) : (presentNext w s).seg = s.seg := rfl
@[simp] theorem presentNext_en (w : Word) (s : State) : (presentNext w s).en = s.en := rfl
@[simp] theorem presentNext_aux (w : Word) (s : State) : (presentNext w s).aux = s.aux := rfl
@[simp] theorem presentNext_tmr (w : Word) (s : State) : (presentNext w s).tmr = s.tmr := rfl
@[simp] theorem presentNext_tif (w : Word) (s : State) : (presentNext w s).tif = s.tif := rfl
@[simp] theorem presentNext_adres (w : Word) (s : State) : (presentNext w s).adres = s.adres := rfl
@[simp] theorem presentNext_sif (w : Word) (s : State) : (presentNext w s).sif = s.sif := rfl
@[simp] theorem presentNext_cbusy (w : Word) (s : State) : (presentNext w s).cbusy = s.cbusy := rfl
@[simp] theorem presentNext_outh (w : Word) (s : State) : (presentNext w s).outh = s.outh := rfl
@[simp] theorem presentNext_faults (w : Word) (s : State) : (presentNext w s).faults = s.faults := rfl
@[simp] theorem presentNext_refused (w : Word) (s : State) : (presentNext w s).refused = s.refused := rfl
@[simp] theorem presentNext_config (w : Word) (s : State) : (presentNext w s).config = s.config := rfl
@[simp] theorem presentNext_input (w : Word) (s : State) : (presentNext w s).input = w :: s.input := rfl
@[simp] theorem presentNext_result (w : Word) (s : State) : (presentNext w s).result = s.result := rfl
@[simp] theorem presentNext_draws (w : Word) (s : State) : (presentNext w s).draws = s.draws := rfl

/-! ### notTaken -/

@[simp] theorem notTaken_counter (s : State) : (notTaken s).counter = s.counter := rfl
@[simp] theorem notTaken_reading (s : State) : (notTaken s).reading = s.reading := rfl
@[simp] theorem notTaken_phase (s : State) : (notTaken s).phase = s.phase := rfl
@[simp] theorem notTaken_seg (s : State) : (notTaken s).seg = s.seg := rfl
@[simp] theorem notTaken_en (s : State) : (notTaken s).en = s.en := rfl
@[simp] theorem notTaken_aux (s : State) : (notTaken s).aux = s.aux := rfl
@[simp] theorem notTaken_tmr (s : State) : (notTaken s).tmr = s.tmr := rfl
@[simp] theorem notTaken_tif (s : State) : (notTaken s).tif = s.tif := rfl
@[simp] theorem notTaken_adres (s : State) : (notTaken s).adres = s.adres := rfl
@[simp] theorem notTaken_sif (s : State) : (notTaken s).sif = s.sif := rfl
@[simp] theorem notTaken_cbusy (s : State) : (notTaken s).cbusy = s.cbusy := rfl
@[simp] theorem notTaken_outh (s : State) : (notTaken s).outh = s.outh := rfl
@[simp] theorem notTaken_faults (s : State) : (notTaken s).faults = s.faults := rfl
@[simp] theorem notTaken_refused (s : State) : (notTaken s).refused = s.refused := rfl
@[simp] theorem notTaken_config (s : State) : (notTaken s).config = s.config := rfl
@[simp] theorem notTaken_input (s : State) : (notTaken s).input = s.input := rfl
@[simp] theorem notTaken_result (s : State) : (notTaken s).result = .notTaken := rfl
@[simp] theorem notTaken_draws (s : State) : (notTaken s).draws = s.draws := rfl

/-! ### accept -/

@[simp] theorem accept_counter (s : State) : (accept s).counter = s.counter := rfl
@[simp] theorem accept_reading (s : State) : (accept s).reading = s.reading := rfl
@[simp] theorem accept_phase (s : State) : (accept s).phase = s.phase := rfl
@[simp] theorem accept_seg (s : State) : (accept s).seg = s.seg := rfl
@[simp] theorem accept_en (s : State) : (accept s).en = s.en := rfl
@[simp] theorem accept_aux (s : State) : (accept s).aux = s.aux := rfl
@[simp] theorem accept_tmr (s : State) : (accept s).tmr = s.tmr := rfl
@[simp] theorem accept_tif (s : State) : (accept s).tif = s.tif := rfl
@[simp] theorem accept_adres (s : State) : (accept s).adres = s.adres := rfl
@[simp] theorem accept_sif (s : State) : (accept s).sif = s.sif := rfl
@[simp] theorem accept_cbusy (s : State) : (accept s).cbusy = s.cbusy := rfl
@[simp] theorem accept_outh (s : State) : (accept s).outh = s.outh := rfl
@[simp] theorem accept_faults (s : State) : (accept s).faults = s.faults := rfl
@[simp] theorem accept_refused (s : State) : (accept s).refused = s.refused := rfl
@[simp] theorem accept_config (s : State) : (accept s).config = s.config := rfl
@[simp] theorem accept_input (s : State) : (accept s).input = s.input := rfl
@[simp] theorem accept_result (s : State) : (accept s).result = .done := rfl
@[simp] theorem accept_draws (s : State) : (accept s).draws = s.draws := rfl

/-! ### returnValue -/

@[simp] theorem returnValue_counter (v : Byte) (s : State) : (returnValue v s).counter = s.counter := rfl
@[simp] theorem returnValue_reading (v : Byte) (s : State) : (returnValue v s).reading = s.reading := rfl
@[simp] theorem returnValue_phase (v : Byte) (s : State) : (returnValue v s).phase = s.phase := rfl
@[simp] theorem returnValue_seg (v : Byte) (s : State) : (returnValue v s).seg = s.seg := rfl
@[simp] theorem returnValue_en (v : Byte) (s : State) : (returnValue v s).en = s.en := rfl
@[simp] theorem returnValue_aux (v : Byte) (s : State) : (returnValue v s).aux = s.aux := rfl
@[simp] theorem returnValue_tmr (v : Byte) (s : State) : (returnValue v s).tmr = s.tmr := rfl
@[simp] theorem returnValue_tif (v : Byte) (s : State) : (returnValue v s).tif = s.tif := rfl
@[simp] theorem returnValue_adres (v : Byte) (s : State) : (returnValue v s).adres = s.adres := rfl
@[simp] theorem returnValue_sif (v : Byte) (s : State) : (returnValue v s).sif = s.sif := rfl
@[simp] theorem returnValue_cbusy (v : Byte) (s : State) : (returnValue v s).cbusy = s.cbusy := rfl
@[simp] theorem returnValue_outh (v : Byte) (s : State) : (returnValue v s).outh = s.outh := rfl
@[simp] theorem returnValue_faults (v : Byte) (s : State) : (returnValue v s).faults = s.faults := rfl
@[simp] theorem returnValue_refused (v : Byte) (s : State) : (returnValue v s).refused = s.refused := rfl
@[simp] theorem returnValue_config (v : Byte) (s : State) : (returnValue v s).config = s.config := rfl
@[simp] theorem returnValue_input (v : Byte) (s : State) : (returnValue v s).input = s.input := rfl
@[simp] theorem returnValue_result (v : Byte) (s : State) : (returnValue v s).result = .returned v := rfl
@[simp] theorem returnValue_draws (v : Byte) (s : State) : (returnValue v s).draws = s.draws := rfl

/-! ### driveSeg -/

@[simp] theorem driveSeg_counter (v : Byte) (s : State) : (driveSeg v s).counter = s.counter := rfl
@[simp] theorem driveSeg_reading (v : Byte) (s : State) : (driveSeg v s).reading = s.reading := rfl
@[simp] theorem driveSeg_phase (v : Byte) (s : State) : (driveSeg v s).phase = s.phase := rfl
@[simp] theorem driveSeg_seg (v : Byte) (s : State) : (driveSeg v s).seg = v := rfl
@[simp] theorem driveSeg_en (v : Byte) (s : State) : (driveSeg v s).en = s.en := rfl
@[simp] theorem driveSeg_aux (v : Byte) (s : State) : (driveSeg v s).aux = s.aux := rfl
@[simp] theorem driveSeg_tmr (v : Byte) (s : State) : (driveSeg v s).tmr = s.tmr := rfl
@[simp] theorem driveSeg_tif (v : Byte) (s : State) : (driveSeg v s).tif = s.tif := rfl
@[simp] theorem driveSeg_adres (v : Byte) (s : State) : (driveSeg v s).adres = s.adres := rfl
@[simp] theorem driveSeg_sif (v : Byte) (s : State) : (driveSeg v s).sif = s.sif := rfl
@[simp] theorem driveSeg_cbusy (v : Byte) (s : State) : (driveSeg v s).cbusy = s.cbusy := rfl
@[simp] theorem driveSeg_outh (v : Byte) (s : State) : (driveSeg v s).outh = s.outh ++ [.seg v] := rfl
@[simp] theorem driveSeg_faults (v : Byte) (s : State) : (driveSeg v s).faults = s.faults := rfl
@[simp] theorem driveSeg_refused (v : Byte) (s : State) : (driveSeg v s).refused = s.refused := rfl
@[simp] theorem driveSeg_config (v : Byte) (s : State) : (driveSeg v s).config = s.config := rfl
@[simp] theorem driveSeg_input (v : Byte) (s : State) : (driveSeg v s).input = s.input := rfl
@[simp] theorem driveSeg_result (v : Byte) (s : State) : (driveSeg v s).result = s.result := rfl
@[simp] theorem driveSeg_draws (v : Byte) (s : State) : (driveSeg v s).draws = s.draws := rfl

/-! ### driveEn -/

@[simp] theorem driveEn_counter (v : BitVec 3) (s : State) : (driveEn v s).counter = s.counter := rfl
@[simp] theorem driveEn_reading (v : BitVec 3) (s : State) : (driveEn v s).reading = s.reading := rfl
@[simp] theorem driveEn_phase (v : BitVec 3) (s : State) : (driveEn v s).phase = s.phase := rfl
@[simp] theorem driveEn_seg (v : BitVec 3) (s : State) : (driveEn v s).seg = s.seg := rfl
@[simp] theorem driveEn_en (v : BitVec 3) (s : State) : (driveEn v s).en = v := rfl
@[simp] theorem driveEn_aux (v : BitVec 3) (s : State) : (driveEn v s).aux = s.aux := rfl
@[simp] theorem driveEn_tmr (v : BitVec 3) (s : State) : (driveEn v s).tmr = s.tmr := rfl
@[simp] theorem driveEn_tif (v : BitVec 3) (s : State) : (driveEn v s).tif = s.tif := rfl
@[simp] theorem driveEn_adres (v : BitVec 3) (s : State) : (driveEn v s).adres = s.adres := rfl
@[simp] theorem driveEn_sif (v : BitVec 3) (s : State) : (driveEn v s).sif = s.sif := rfl
@[simp] theorem driveEn_cbusy (v : BitVec 3) (s : State) : (driveEn v s).cbusy = s.cbusy := rfl
@[simp] theorem driveEn_outh (v : BitVec 3) (s : State) : (driveEn v s).outh = s.outh ++ [.en v] := rfl
@[simp] theorem driveEn_faults (v : BitVec 3) (s : State) : (driveEn v s).faults = s.faults := rfl
@[simp] theorem driveEn_refused (v : BitVec 3) (s : State) : (driveEn v s).refused = s.refused := rfl
@[simp] theorem driveEn_config (v : BitVec 3) (s : State) : (driveEn v s).config = s.config := rfl
@[simp] theorem driveEn_input (v : BitVec 3) (s : State) : (driveEn v s).input = s.input := rfl
@[simp] theorem driveEn_result (v : BitVec 3) (s : State) : (driveEn v s).result = s.result := rfl
@[simp] theorem driveEn_draws (v : BitVec 3) (s : State) : (driveEn v s).draws = s.draws := rfl

/-! ### driveAux -/

@[simp] theorem driveAux_counter (v : BitVec 2) (s : State) : (driveAux v s).counter = s.counter := rfl
@[simp] theorem driveAux_reading (v : BitVec 2) (s : State) : (driveAux v s).reading = s.reading := rfl
@[simp] theorem driveAux_phase (v : BitVec 2) (s : State) : (driveAux v s).phase = s.phase := rfl
@[simp] theorem driveAux_seg (v : BitVec 2) (s : State) : (driveAux v s).seg = s.seg := rfl
@[simp] theorem driveAux_en (v : BitVec 2) (s : State) : (driveAux v s).en = s.en := rfl
@[simp] theorem driveAux_tmr (v : BitVec 2) (s : State) : (driveAux v s).tmr = s.tmr := rfl
@[simp] theorem driveAux_tif (v : BitVec 2) (s : State) : (driveAux v s).tif = s.tif := rfl
@[simp] theorem driveAux_adres (v : BitVec 2) (s : State) : (driveAux v s).adres = s.adres := rfl
@[simp] theorem driveAux_sif (v : BitVec 2) (s : State) : (driveAux v s).sif = s.sif := rfl
@[simp] theorem driveAux_cbusy (v : BitVec 2) (s : State) : (driveAux v s).cbusy = s.cbusy := rfl
@[simp] theorem driveAux_faults (v : BitVec 2) (s : State) : (driveAux v s).faults = s.faults := rfl
@[simp] theorem driveAux_refused (v : BitVec 2) (s : State) : (driveAux v s).refused = s.refused := rfl
@[simp] theorem driveAux_config (v : BitVec 2) (s : State) : (driveAux v s).config = s.config := rfl
@[simp] theorem driveAux_input (v : BitVec 2) (s : State) : (driveAux v s).input = s.input := rfl
@[simp] theorem driveAux_result (v : BitVec 2) (s : State) : (driveAux v s).result = s.result := rfl
@[simp] theorem driveAux_draws (v : BitVec 2) (s : State) : (driveAux v s).draws = s.draws := rfl

/-! ### raiseFault -/

@[simp] theorem raiseFault_counter (c : FaultCode) (s : State) : (raiseFault c s).counter = s.counter := rfl
@[simp] theorem raiseFault_reading (c : FaultCode) (s : State) : (raiseFault c s).reading = s.reading := rfl
@[simp] theorem raiseFault_phase (c : FaultCode) (s : State) : (raiseFault c s).phase = s.phase := rfl
@[simp] theorem raiseFault_seg (c : FaultCode) (s : State) : (raiseFault c s).seg = s.seg := rfl
@[simp] theorem raiseFault_en (c : FaultCode) (s : State) : (raiseFault c s).en = s.en := rfl
@[simp] theorem raiseFault_aux (c : FaultCode) (s : State) : (raiseFault c s).aux = s.aux := rfl
@[simp] theorem raiseFault_tmr (c : FaultCode) (s : State) : (raiseFault c s).tmr = s.tmr := rfl
@[simp] theorem raiseFault_tif (c : FaultCode) (s : State) : (raiseFault c s).tif = s.tif := rfl
@[simp] theorem raiseFault_adres (c : FaultCode) (s : State) : (raiseFault c s).adres = s.adres := rfl
@[simp] theorem raiseFault_sif (c : FaultCode) (s : State) : (raiseFault c s).sif = s.sif := rfl
@[simp] theorem raiseFault_cbusy (c : FaultCode) (s : State) : (raiseFault c s).cbusy = s.cbusy := rfl
@[simp] theorem raiseFault_outh (c : FaultCode) (s : State) : (raiseFault c s).outh = s.outh := rfl
@[simp] theorem raiseFault_faults (c : FaultCode) (s : State) : (raiseFault c s).faults = addFault c s.faults := rfl
@[simp] theorem raiseFault_refused (c : FaultCode) (s : State) : (raiseFault c s).refused = s.refused := rfl
@[simp] theorem raiseFault_config (c : FaultCode) (s : State) : (raiseFault c s).config = s.config := rfl
@[simp] theorem raiseFault_input (c : FaultCode) (s : State) : (raiseFault c s).input = s.input := rfl
@[simp] theorem raiseFault_result (c : FaultCode) (s : State) : (raiseFault c s).result = .faulted c := rfl
@[simp] theorem raiseFault_draws (c : FaultCode) (s : State) : (raiseFault c s).draws = s.draws := rfl

/-! ### refuseWord -/

@[simp] theorem refuseWord_counter (c : RefusalCode) (s : State) : (refuseWord c s).counter = s.counter := rfl
@[simp] theorem refuseWord_reading (c : RefusalCode) (s : State) : (refuseWord c s).reading = s.reading := rfl
@[simp] theorem refuseWord_phase (c : RefusalCode) (s : State) : (refuseWord c s).phase = s.phase := rfl
@[simp] theorem refuseWord_seg (c : RefusalCode) (s : State) : (refuseWord c s).seg = s.seg := rfl
@[simp] theorem refuseWord_en (c : RefusalCode) (s : State) : (refuseWord c s).en = s.en := rfl
@[simp] theorem refuseWord_aux (c : RefusalCode) (s : State) : (refuseWord c s).aux = s.aux := rfl
@[simp] theorem refuseWord_tmr (c : RefusalCode) (s : State) : (refuseWord c s).tmr = s.tmr := rfl
@[simp] theorem refuseWord_tif (c : RefusalCode) (s : State) : (refuseWord c s).tif = s.tif := rfl
@[simp] theorem refuseWord_adres (c : RefusalCode) (s : State) : (refuseWord c s).adres = s.adres := rfl
@[simp] theorem refuseWord_sif (c : RefusalCode) (s : State) : (refuseWord c s).sif = s.sif := rfl
@[simp] theorem refuseWord_cbusy (c : RefusalCode) (s : State) : (refuseWord c s).cbusy = s.cbusy := rfl
@[simp] theorem refuseWord_outh (c : RefusalCode) (s : State) : (refuseWord c s).outh = s.outh := rfl
@[simp] theorem refuseWord_faults (c : RefusalCode) (s : State) : (refuseWord c s).faults = s.faults := rfl
@[simp] theorem refuseWord_refused (c : RefusalCode) (s : State) : (refuseWord c s).refused = true := rfl
@[simp] theorem refuseWord_config (c : RefusalCode) (s : State) : (refuseWord c s).config = s.config := rfl
@[simp] theorem refuseWord_input (c : RefusalCode) (s : State) : (refuseWord c s).input = s.input := rfl
@[simp] theorem refuseWord_result (c : RefusalCode) (s : State) : (refuseWord c s).result = .refusedWord c := rfl
@[simp] theorem refuseWord_draws (c : RefusalCode) (s : State) : (refuseWord c s).draws = s.draws := rfl

/-! ### countDraw -/

@[simp] theorem countDraw_counter (s : State) : (countDraw s).counter = s.counter := rfl
@[simp] theorem countDraw_reading (s : State) : (countDraw s).reading = s.reading := rfl
@[simp] theorem countDraw_phase (s : State) : (countDraw s).phase = s.phase := rfl
@[simp] theorem countDraw_seg (s : State) : (countDraw s).seg = s.seg := rfl
@[simp] theorem countDraw_en (s : State) : (countDraw s).en = s.en := rfl
@[simp] theorem countDraw_aux (s : State) : (countDraw s).aux = s.aux := rfl
@[simp] theorem countDraw_tmr (s : State) : (countDraw s).tmr = s.tmr := rfl
@[simp] theorem countDraw_tif (s : State) : (countDraw s).tif = s.tif := rfl
@[simp] theorem countDraw_adres (s : State) : (countDraw s).adres = s.adres := rfl
@[simp] theorem countDraw_sif (s : State) : (countDraw s).sif = s.sif := rfl
@[simp] theorem countDraw_cbusy (s : State) : (countDraw s).cbusy = s.cbusy := rfl
@[simp] theorem countDraw_outh (s : State) : (countDraw s).outh = s.outh := rfl
@[simp] theorem countDraw_faults (s : State) : (countDraw s).faults = s.faults := rfl
@[simp] theorem countDraw_refused (s : State) : (countDraw s).refused = s.refused := rfl
@[simp] theorem countDraw_config (s : State) : (countDraw s).config = s.config := rfl
@[simp] theorem countDraw_input (s : State) : (countDraw s).input = s.input := rfl
@[simp] theorem countDraw_result (s : State) : (countDraw s).result = s.result := rfl
@[simp] theorem countDraw_draws (s : State) : (countDraw s).draws = s.draws + 1 := rfl

/-! ### acknowledge -/

@[simp] theorem acknowledge_counter (src : Source) (s : State) : (acknowledge src s).counter = s.counter := rfl
@[simp] theorem acknowledge_reading (src : Source) (s : State) : (acknowledge src s).reading = s.reading := rfl
@[simp] theorem acknowledge_phase (src : Source) (s : State) : (acknowledge src s).phase = s.phase := rfl
@[simp] theorem acknowledge_seg (src : Source) (s : State) : (acknowledge src s).seg = s.seg := rfl
@[simp] theorem acknowledge_en (src : Source) (s : State) : (acknowledge src s).en = s.en := rfl
@[simp] theorem acknowledge_aux (src : Source) (s : State) : (acknowledge src s).aux = s.aux := rfl
@[simp] theorem acknowledge_tmr (src : Source) (s : State) : (acknowledge src s).tmr = s.tmr := rfl
@[simp] theorem acknowledge_adres (src : Source) (s : State) : (acknowledge src s).adres = s.adres := rfl
@[simp] theorem acknowledge_cbusy (src : Source) (s : State) : (acknowledge src s).cbusy = s.cbusy := rfl
@[simp] theorem acknowledge_outh (src : Source) (s : State) : (acknowledge src s).outh = s.outh := rfl
@[simp] theorem acknowledge_faults (src : Source) (s : State) : (acknowledge src s).faults = s.faults := rfl
@[simp] theorem acknowledge_refused (src : Source) (s : State) : (acknowledge src s).refused = s.refused := rfl
@[simp] theorem acknowledge_config (src : Source) (s : State) : (acknowledge src s).config = s.config := rfl
@[simp] theorem acknowledge_input (src : Source) (s : State) : (acknowledge src s).input = s.input := rfl
@[simp] theorem acknowledge_result (src : Source) (s : State) : (acknowledge src s).result = s.result := rfl
@[simp] theorem acknowledge_draws (src : Source) (s : State) : (acknowledge src s).draws = s.draws := rfl

/-! ### latchResult -/

@[simp] theorem latchResult_counter (v : Byte) (s : State) : (latchResult v s).counter = s.counter := rfl
@[simp] theorem latchResult_reading (v : Byte) (s : State) : (latchResult v s).reading = s.reading := rfl
@[simp] theorem latchResult_phase (v : Byte) (s : State) : (latchResult v s).phase = s.phase := rfl
@[simp] theorem latchResult_seg (v : Byte) (s : State) : (latchResult v s).seg = s.seg := rfl
@[simp] theorem latchResult_en (v : Byte) (s : State) : (latchResult v s).en = s.en := rfl
@[simp] theorem latchResult_aux (v : Byte) (s : State) : (latchResult v s).aux = s.aux := rfl
@[simp] theorem latchResult_tmr (v : Byte) (s : State) : (latchResult v s).tmr = s.tmr := rfl
@[simp] theorem latchResult_tif (v : Byte) (s : State) : (latchResult v s).tif = s.tif := rfl
@[simp] theorem latchResult_adres (v : Byte) (s : State) : (latchResult v s).adres = v := rfl
@[simp] theorem latchResult_sif (v : Byte) (s : State) : (latchResult v s).sif = true := rfl
@[simp] theorem latchResult_cbusy (v : Byte) (s : State) : (latchResult v s).cbusy = false := rfl
@[simp] theorem latchResult_outh (v : Byte) (s : State) : (latchResult v s).outh = s.outh := rfl
@[simp] theorem latchResult_faults (v : Byte) (s : State) : (latchResult v s).faults = s.faults := rfl
@[simp] theorem latchResult_refused (v : Byte) (s : State) : (latchResult v s).refused = s.refused := rfl
@[simp] theorem latchResult_config (v : Byte) (s : State) : (latchResult v s).config = s.config := rfl
@[simp] theorem latchResult_input (v : Byte) (s : State) : (latchResult v s).input = s.input := rfl
@[simp] theorem latchResult_result (v : Byte) (s : State) : (latchResult v s).result = s.result := rfl
@[simp] theorem latchResult_draws (v : Byte) (s : State) : (latchResult v s).draws = s.draws := rfl

theorem driveAux_continuous (v : BitVec 2) (s : State) (h : s.config.auxMode = .continuous) :
    driveAux v s = { s with aux := v, outh := s.outh ++ [.aux v] } := by simp [driveAux, h]

theorem driveAux_busShared (v : BitVec 2) (s : State) (h : s.config.auxMode = .busShared) : driveAux v s = s := by
  simp [driveAux, h]

@[simp] theorem acknowledge_timer (s : State) : acknowledge .timer s = { s with tif := false } := rfl
@[simp] theorem acknowledge_sample (s : State) : acknowledge .sample s = { s with sif := false } := rfl

/-! ### Raised faults keep FAULTS a set (10_state R29) -/

theorem addFault_nodup (c : FaultCode) (fs : List FaultCode) (h : fs.Nodup) : (addFault c fs).Nodup := by
  unfold addFault
  split
  · exact h
  · rename_i hc
    exact List.Nodup.append h (List.nodup_singleton c) (by simpa using hc)

theorem mem_addFault (c d : FaultCode) (fs : List FaultCode) : d ∈ addFault c fs ↔ d ∈ fs ∨ d = c := by
  unfold addFault
  split
  · rename_i hc
    exact ⟨Or.inl, fun h => h.elim id (fun e => e ▸ hc)⟩
  · simp

end Sys2Proof.Machine
end

