-- ==== Sys2Proof/Laws/Ops.lean ====
section
/-! SUPPORT. What the shared operations can answer, each said once, and the inversion of `exec` and `step` built on them. -/

namespace Sys2Proof.Machine

/-! ### present -/

theorem faultedState_iff (s : State) : faultedState s = true ↔ s.faults ≠ [] := by
  simp [faultedState]

theorem present_accepts {enabled : Bool} {effect : State → State} {s : State} (hc : configLegal s.config = true)
    (hf : s.faults = []) (he : enabled = true) : present enabled effect s = .next (effect (accept s)) := by
  simp [present, hc, faultedState, hf, he]

theorem present_notTaken {enabled : Bool} {effect : State → State} {s : State} (hc : configLegal s.config = true)
    (h : s.faults ≠ [] ∨ enabled = false) : present enabled effect s = .next (notTaken s) := by
  rcases h with h | h <;> simp [present, hc, faultedState, h]

theorem present_badConfig {enabled : Bool} {effect : State → State} {s : State} (hc : configLegal s.config = false) :
    present enabled effect s = .refused .badConfig := by
  simp [present, hc]

/-- Everything a presented operation can do when it answers a next state. -/
theorem present_cases {enabled : Bool} {effect : State → State} {s t : State} (h : present enabled effect s = .next t) :
    configLegal s.config = true ∧
      ((t = notTaken s ∧ (s.faults ≠ [] ∨ enabled = false)) ∨
        (s.faults = [] ∧ enabled = true ∧ t = effect (accept s))) := by
  unfold present at h
  split at h
  · rename_i hc
    refine ⟨hc, ?_⟩
    split at h
    · rename_i hb
      refine .inl ⟨(Host.Outcome.next.inj h).symm, ?_⟩
      simpa [faultedState] using hb
    · rename_i hb
      have hb' : s.faults = [] ∧ enabled = true := by simpa [faultedState] using hb
      exact .inr ⟨hb'.1, hb'.2, (Host.Outcome.next.inj h).symm⟩
  · cases h

/-! ### exec as one presented operation -/

/-- The `require` conditions of an operation. -/
def opEnabled (i : Instr) (s : State) : Bool :=
  match i with
  | .takeTimer => takeable .timer s
  | .takeSample => takeable .sample s
  | .convDone _ => s.cbusy
  | .reset | .tmrClk | .cntInc | .cntDec | .rdCounter | .rdReading => true

/-- The effect of an operation on the accepted state. -/
def opEffect (i : Instr) (s : State) : State :=
  match i with
  | .reset => resetBody s
  | .tmrClk => timerClock s
  | .convDone v => latchResult v s
  | .takeTimer => timerHandler s
  | .takeSample => sampleHandler s
  | .cntInc => writeCounter (s.counter + 1) s
  | .cntDec => writeCounter (s.counter - 1) s
  | .rdCounter => returnValue s.counter s
  | .rdReading => returnValue s.reading s

theorem exec_eq_present (i : Instr) (s : State) : exec i s = present (opEnabled i s) (opEffect i) s := by
  cases i <;> rfl

/-- Everything an operation can do when it answers a next state. -/
theorem exec_cases {i : Instr} {s t : State} (h : exec i s = .next t) :
    configLegal s.config = true ∧
      ((t = notTaken s ∧ (s.faults ≠ [] ∨ opEnabled i s = false)) ∨
        (s.faults = [] ∧ opEnabled i s = true ∧ t = opEffect i (accept s))) :=
  present_cases (exec_eq_present i s ▸ h)

theorem exec_accepts {i : Instr} {s : State} (hc : configLegal s.config = true) (hf : s.faults = [])
    (he : opEnabled i s = true) : exec i s = .next (opEffect i (accept s)) := by
  rw [exec_eq_present, present_accepts hc hf he]

theorem exec_notTaken {i : Instr} {s : State} (hc : configLegal s.config = true)
    (h : s.faults ≠ [] ∨ opEnabled i s = false) : exec i s = .next (notTaken s) := by
  rw [exec_eq_present, present_notTaken hc h]

theorem exec_badConfig {i : Instr} {s : State} (hc : configLegal s.config = false) :
    exec i s = .refused .badConfig := by
  rw [exec_eq_present, present_badConfig hc]

/-- With a legal configuration every operation answers a next state. -/
theorem exec_total (i : Instr) {s : State} (hc : configLegal s.config = true) : ∃ t, exec i s = .next t := by
  rw [exec_eq_present]
  unfold present
  rw [if_pos hc]
  split <;> exact ⟨_, rfl⟩

/-! ### The effects, field by field -/

theorem tick_eq (s : State) : tick s =
    { s with
      tif := false
      seg := phasePattern (renderedPhase s) s
      en := selectLine (renderedPhase s)
      outh := s.outh ++ [.en 0b000, .seg (phasePattern (renderedPhase s) s), .en (selectLine (renderedPhase s))]
      phase := storedPhase s
      tmr := s.config.reload } := by
  simp [tick, driveEn, driveSeg, phasePattern, renderedPhase, acknowledge]

/-- The two cases of the timer handler. -/
theorem timerHandler_cases (s : State) :
    (s.phase = 3 ∧ timerHandler s = raiseFault .illegalPhase s) ∨ (s.phase ≠ 3 ∧ timerHandler s = tick s) := by
  unfold timerHandler
  split
  · exact .inl ⟨‹_›, rfl⟩
  · exact .inr ⟨‹_›, rfl⟩

/-- The three cases of a timer clock (43_timer R88). -/
theorem timerClock_cases (s : State) :
    (s.tmr = 0 ∧ timerClock s = s) ∨ (s.tmr = 1 ∧ timerClock s = { s with tmr := 0, tif := true }) ∨
      (2 ≤ s.tmr ∧ timerClock s = { s with tmr := s.tmr - 1 }) := by
  unfold timerClock
  rcases Nat.lt_or_ge s.tmr 2 with h | h
  · interval_cases hs : s.tmr
    · exact .inl ⟨rfl, by simp⟩
    · exact .inr (.inl ⟨rfl, by simp⟩)
  · exact .inr (.inr ⟨h, by rw [if_neg (by omega), if_neg (by omega)]⟩)

/-- `writeCounter` under the two wirings of the auxiliary lines (10_state R21). -/
theorem writeCounter_cases (c : Byte) (s : State) :
    (s.config.auxMode = .continuous ∧
      writeCounter c s = { s with counter := c, aux := lowTwo c, outh := s.outh ++ [.aux (lowTwo c)] }) ∨
    (s.config.auxMode = .busShared ∧ writeCounter c s = { s with counter := c }) := by
  unfold writeCounter
  cases h : s.config.auxMode
  · exact .inl ⟨rfl, driveAux_continuous _ _ h⟩
  · exact .inr ⟨rfl, driveAux_busShared _ _ h⟩

/-- RESET under the two wirings; only the two drawn bytes and the count of draws are not said. -/
theorem resetBody_cases (s : State) : ∃ (r a : Byte) (n : Nat),
    (s.config.auxMode = .continuous ∧ resetBody s =
      { s with counter := 0, reading := s.config.readingReset.getD r, phase := phaseResetValue s.config, en := 0, seg := 0,
               aux := 0, tmr := s.config.reload, tif := false, adres := a, sif := false, cbusy := true,
               outh := s.outh ++ [.en 0, .seg 0, .aux 0], draws := n }) ∨
    (s.config.auxMode = .busShared ∧ resetBody s =
      { s with counter := 0, reading := s.config.readingReset.getD r, phase := phaseResetValue s.config, en := 0, seg := 0,
               tmr := s.config.reload, tif := false, adres := a, sif := false, cbusy := true,
               outh := s.outh ++ [.en 0, .seg 0], draws := n }) := by
  cases hr : s.config.readingReset with
  | none =>
    refine ⟨Config.drawByte s.draws, Config.drawByte (s.draws + 1), s.draws + 2, ?_⟩
    cases hm : s.config.auxMode <;>
      simp [resetBody, resetReading, resetAdres, countDraw, drawnByte, driveAux, driveSeg, driveEn, hr, hm]
  | some v =>
    refine ⟨0, Config.drawByte s.draws, s.draws + 1, ?_⟩
    cases hm : s.config.auxMode <;>
      simp [resetBody, resetReading, resetAdres, countDraw, drawnByte, driveAux, driveSeg, driveEn, hr, hm]

@[simp] theorem opEffect_config (i : Instr) (s : State) : (opEffect i s).config = s.config := by
  cases i with
  | reset => obtain ⟨r, a, n, ⟨-, h⟩ | ⟨-, h⟩⟩ := resetBody_cases s <;> simp [opEffect, h]
  | tmrClk => obtain ⟨-, h⟩ | ⟨-, h⟩ | ⟨-, h⟩ := timerClock_cases s <;> simp [opEffect, h]
  | takeTimer => obtain ⟨-, h⟩ | ⟨-, h⟩ := timerHandler_cases s <;> simp [opEffect, h, tick_eq]
  | convDone v => rfl
  | takeSample => rfl
  | cntInc => rfl
  | cntDec => rfl
  | rdCounter => rfl
  | rdReading => rfl

theorem exec_config {i : Instr} {s t : State} (h : exec i s = .next t) : t.config = s.config := by
  obtain ⟨-, ⟨rfl, -⟩ | ⟨-, -, rfl⟩⟩ := exec_cases h <;> simp

/-! ### Enabling, ticks and timer clocks -/

theorem configLegal_iff (c : Config) : configLegal c = true ↔
    (1 ≤ c.tmrW ∧ 1 ≤ c.reload ∧ c.reload ≤ 2 ^ c.tmrW - 1 ∧ c.segTable[0] = 0x3F ∧ c.segTable[5] = 0x6D ∧
      ∀ n : Fin 16, (c.segTable[n]).getLsbD 7 = false) := by
  simp only [configLegal, Bool.and_eq_true, decide_eq_true_eq, and_assoc]

theorem takeable_timer_iff (s : State) :
    takeable .timer s = true ↔ s.tif = true ∧ (s.config.irqPriority = .sampleFirst → s.sif = false) := by
  simp only [takeable, pending, dispatchAllows, Bool.and_eq_true, Bool.or_eq_true, decide_eq_true_eq, Bool.not_eq_true']
  exact and_congr_right fun _ => by tauto

theorem takeable_sample_iff (s : State) :
    takeable .sample s = true ↔ s.sif = true ∧ (s.config.irqPriority = .timerFirst → s.tif = false) := by
  simp only [takeable, pending, dispatchAllows, Bool.and_eq_true, Bool.or_eq_true, decide_eq_true_eq, Bool.not_eq_true']
  exact and_congr_right fun _ => by tauto

/-- PHASE_RESET is a legal phase. -/
theorem phaseResetValue_ne_three (c : Config) : phaseResetValue c ≠ 3 := by
  unfold phaseResetValue
  generalize c.phaseReset = p
  revert p
  decide

/-- A legal phase renders a legal phase. -/
theorem renderedPhase_lt (s : State) (h : s.phase ≠ 3) : (renderedPhase s).toNat < 3 := by
  unfold renderedPhase nextPhase
  generalize s.phase = p at *
  revert h
  cases s.config.tickOrder <;> revert p <;> decide

/-- Under either tick order the phase moves on by one. -/
theorem storedPhase_toNat (s : State) (h : s.phase ≠ 3) : (storedPhase s).toNat = (s.phase.toNat + 1) % 3 := by
  simp only [storedPhase, renderedPhase]
  generalize s.phase = p at *
  revert h
  cases s.config.tickOrder <;> revert p <;> decide

/-- A taken timer interrupt in a legal phase is a tick. -/
theorem takeTimer_ticks {s : State} (hc : configLegal s.config = true) (hf : s.faults = [])
    (ht : takeable .timer s = true) (hp : s.phase ≠ 3) : exec .takeTimer s = .next (tick (accept s)) := by
  rw [exec_accepts (i := .takeTimer) hc hf ht]
  have hp' : (accept s).phase ≠ 3 := hp
  simp only [opEffect, timerHandler, if_neg hp']

/-- A TAKE_TIMER that was accepted without a fault was a tick. -/
theorem takeTimer_done {s t : State} (h : exec .takeTimer s = .next t) (hd : t.result = .done) :
    configLegal s.config = true ∧ s.faults = [] ∧ takeable .timer s = true ∧ s.phase ≠ 3 ∧ t = tick (accept s) := by
  obtain ⟨hc, ⟨rfl, -⟩ | ⟨hf, he, rfl⟩⟩ := exec_cases h
  · simp at hd
  · obtain ⟨-, e⟩ | ⟨hp, e⟩ := timerHandler_cases (accept s)
    · simp [opEffect, e] at hd
    · exact ⟨hc, hf, he, hp, e⟩

/-- A timer clock in a state without a fault is always accepted. -/
theorem tmrClk_unfaulted {s t : State} (hf : s.faults = []) (h : exec .tmrClk s = .next t) :
    t = timerClock (accept s) := by
  obtain ⟨-, ⟨rfl, h | h⟩ | ⟨-, -, e⟩⟩ := exec_cases h
  · exact absurd hf h
  · cases h
  · exact e

/-! ### step -/

theorem waitForWord_cases {s t : State} (h : waitForWord s = .next t) : configLegal s.config = true ∧ t = s := by
  by_cases hc : configLegal s.config = true
  · rw [waitForWord, if_pos hc] at h
    exact ⟨hc, (Host.Outcome.next.inj h).symm⟩
  · rw [waitForWord, if_neg hc] at h
    cases h

theorem takeRefusal_cases {code : RefusalCode} {s t : State} (h : takeRefusal code s = .next t) :
    configLegal s.config = true ∧ t = refuseWord code s := by
  by_cases hc : configLegal s.config = true
  · rw [takeRefusal, if_pos hc] at h
    exact ⟨hc, (Host.Outcome.next.inj h).symm⟩
  · rw [takeRefusal, if_neg hc] at h
    cases h

theorem step_empty {s : State} (h : s.input = []) : step s = waitForWord s := by
  simp [step, presentedWord, h]

theorem step_word {s : State} {w : Word} {rest : List Word} (h : s.input = w :: rest) :
    step s = match decode w with
      | .ok i => exec i (withdrawWord s)
      | .error code => takeRefusal code (withdrawWord s) := by
  cases hd : decode w <;> simp only [step, presentedWord, h, List.head?_cons, hd]

/-- Everything a step can do when it answers a next state: wait, run a decoded operation, or refuse a word. -/
theorem step_cases {s t : State} (h : step s = .next t) :
    (s.input = [] ∧ configLegal s.config = true ∧ t = s) ∨
    (∃ w rest i, s.input = w :: rest ∧ decode w = .ok i ∧ exec i (withdrawWord s) = .next t) ∨
    (∃ w rest code, s.input = w :: rest ∧ decode w = .error code ∧ configLegal s.config = true ∧
      t = refuseWord code (withdrawWord s)) := by
  cases hi : s.input with
  | nil => exact .inl ⟨rfl, waitForWord_cases (step_empty hi ▸ h)⟩
  | cons w rest =>
    rw [step_word hi] at h
    cases hd : decode w with
    | ok i => exact .inr (.inl ⟨w, rest, i, rfl, hd, by simpa only [hd] using h⟩)
    | error code =>
      simp only [hd] at h
      exact .inr (.inr ⟨w, rest, code, rfl, hd, takeRefusal_cases h⟩)

end Sys2Proof.Machine
end

