-- ==== Sys2Proof/Laws/PerInstr.lean ====
section
/-! SUPPORT. What holds of every operation as syntax, one lemma per constructor. -/

/-- The word of an operation is a word of its row of spec/opcode_table.json (30_encoding R50). -/
def Sys2Proof.Laws.TableRow.Statement (i : Sys2Proof.Instr) : Prop :=
  Sys2Proof.encode i &&& (Sys2Proof.tableRow i).1 = (Sys2Proof.tableRow i).2

namespace Sys2Proof.Laws.TableRow

theorem reset : Statement .reset := rfl

theorem tmrClk : Statement .tmrClk := rfl

theorem convDone (v : Sys2Proof.Byte) : Statement (.convDone v) := by
  simp only [Statement, encode, tableRow]
  apply BitVec.eq_of_getLsbD_eq
  intro k hk
  simp only [BitVec.getLsbD_and, BitVec.getLsbD_or, BitVec.getLsbD_setWidth]
  rcases Nat.lt_or_ge k 8 with h | h
  · interval_cases k <;> simp
  · rw [BitVec.getLsbD_of_ge v k h]
    interval_cases k <;> simp

theorem takeTimer : Statement .takeTimer := rfl

theorem takeSample : Statement .takeSample := rfl

theorem cntInc : Statement .cntInc := rfl

theorem cntDec : Statement .cntDec := rfl

theorem rdCounter : Statement .rdCounter := rfl

theorem rdReading : Statement .rdReading := rfl

end Sys2Proof.Laws.TableRow
end

