-- ==== Sys2Proof/Laws/Sequence.lean ====
section
/-! SUPPORT. Sequences of operations taken apart, and the one induction over them. -/

namespace Sys2Proof.Machine

theorem execAll_nil (s : State) : execAll [] s = .next s := rfl

theorem execAll_cons {i : Instr} {ops : List Instr} {s u : State} :
    execAll (i :: ops) s = .next u ↔ ∃ t, exec i s = .next t ∧ execAll ops t = .next u := by
  rw [execAll]
  cases h : exec i s with
  | next t => simp
  | fault r => cases r
  | refused r => simp

theorem execAll_append {a b : List Instr} {s u : State} :
    execAll (a ++ b) s = .next u ↔ ∃ t, execAll a s = .next t ∧ execAll b t = .next u := by
  induction a generalizing s with
  | nil => exact ⟨fun h => ⟨s, rfl, h⟩, fun ⟨t, ht, hu⟩ => Host.Outcome.next.inj ht ▸ hu⟩
  | cons i a ih =>
    rw [List.cons_append, execAll_cons]
    constructor
    · rintro ⟨t, ht, hu⟩
      obtain ⟨v, hv, hw⟩ := ih.1 hu
      exact ⟨v, execAll_cons.2 ⟨t, ht, hv⟩, hw⟩
    · rintro ⟨v, hv, hw⟩
      obtain ⟨t, ht, hv⟩ := execAll_cons.1 hv
      exact ⟨t, ht, ih.2 ⟨v, hv, hw⟩⟩

theorem countSteps_cons {p : State → Instr → State → Bool} {i : Instr} {ops : List Instr} {s t : State}
    (h : exec i s = .next t) : countSteps p (i :: ops) s = (p s i t).toNat + countSteps p ops t := by
  rw [countSteps, h]
  cases h' : p s i t <;> simp [h']

/-- A property that every operation of the sequence keeps holds at its end. -/
theorem execAll_keeps {P : State → Prop} {ops : List Instr} {s u : State}
    (keeps : ∀ i ∈ ops, ∀ s t, P s → exec i s = .next t → P t) (hs : P s) (h : execAll ops s = .next u) : P u := by
  induction ops generalizing s with
  | nil => exact Host.Outcome.next.inj h ▸ hs
  | cons i ops ih =>
    obtain ⟨t, ht, hu⟩ := execAll_cons.1 h
    exact ih (fun j hj => keeps j (List.mem_cons_of_mem i hj)) (keeps i List.mem_cons_self s t hs ht) hu

/-- With a legal configuration a sequence of operations never stops. -/
theorem execAll_total (ops : List Instr) {s : State} (hc : configLegal s.config = true) :
    ∃ u, execAll ops s = .next u := by
  induction ops generalizing s with
  | nil => exact ⟨s, rfl⟩
  | cons i ops ih =>
    obtain ⟨t, ht⟩ := exec_total i hc
    obtain ⟨u, hu⟩ := ih (s := t) (exec_config ht ▸ hc)
    exact ⟨u, execAll_cons.2 ⟨t, ht, hu⟩⟩

end Sys2Proof.Machine
end

