-- ==== Sys2Proof/Machine/Assembly.lean ====
section
/-! DEFINITION. The textual form of an operation (30_encoding R57), read from the characters of one line. A line spells an
operation and never a pseudo-operation of R58 (DESIGN CHOICE, assumption log 21). -/

namespace Sys2Proof.Machine

/-- A comment starts with `;` and runs to the end of the line. -/
def cutComment : List Char → List Char
  | [] => []
  | c :: cs => if c = ';' then [] else c :: cutComment cs

/-- Blanks that separate the parts of a line. -/
def isBlank (c : Char) : Bool := c = ' ' || c = '\t'

/-- The non-blank pieces of a line, in order; `cur` is the piece being read, last character first. -/
def pieces (cur : List Char) : List Char → List (List Char)
  | [] => if cur = [] then [] else [cur.reverse]
  | c :: cs =>
    if isBlank c then
      if cur = [] then pieces [] cs else cur.reverse :: pieces [] cs
    else pieces (c :: cur) cs

/-- The value of a digit in base 16, either case of letter. -/
def digitValue (c : Char) : Option Nat :=
  let n := c.toNat
  if 48 ≤ n ∧ n ≤ 57 then some (n - 48)
  else if 65 ≤ n ∧ n ≤ 70 then some (n - 55)
  else if 97 ≤ n ∧ n ≤ 102 then some (n - 87)
  else none

/-- The number that `acc` and the digits after it make in base `base`. -/
def digitsValue (base acc : Nat) : List Char → Option Nat
  | [] => some acc
  | c :: cs =>
    match digitValue c with
    | some d => if d < base then digitsValue base (base * acc + d) cs else none
    | none => none

/-- An operand or a count: `0x..` in hexadecimal, or decimal. 30_encoding R57 gives the two bases for CONV_DONE's operand
only and no base for a repeat count; that a count is read like an operand is the model's (DESIGN CHOICE, assumption
log 19). -/
def numberOf : List Char → Option Nat
  | [] => none
  | '0' :: 'x' :: [] => none
  | '0' :: 'x' :: ds => digitsValue 16 0 ds
  | ds => digitsValue 10 0 ds

/-- The mnemonics in upper case: the nine operations of 30_encoding R57. R58 gives the pseudo-operations an expansion and
does not say whether a line may spell one; here none of their names is a mnemonic, so a line that spells one is an assembly
error (DESIGN CHOICE, assumption log 21). -/
def mnemonicNames : List (List Char × Mnemonic) :=
  [("RESET".toList, .reset), ("TMR_CLK".toList, .tmrClk), ("CONV_DONE".toList, .convDone),
   ("TAKE_TIMER".toList, .takeTimer), ("TAKE_SAMPLE".toList, .takeSample), ("CNT_INC".toList, .cntInc),
   ("CNT_DEC".toList, .cntDec), ("RD_COUNTER".toList, .rdCounter), ("RD_READING".toList, .rdReading)]

/-- The mnemonic a piece spells. -/
def mnemonicOf (p : List Char) : Option Mnemonic := (mnemonicNames.find? (fun e => e.1 = p)).map Prod.snd

/-- An operation and its operand, `count` times. -/
def lineOf (count : Nat) : List (List Char) → Option Line
  | [m] => (mnemonicOf m).map (fun k => { mnemonic := k, operand := none, count := count })
  | [m, v] =>
    match mnemonicOf m, numberOf v with
    | some k, some n => some { mnemonic := k, operand := some n, count := count }
    | _, _ => none
  | _ => none

/-- A source line without its comment: `n * MNEMONIC ..` or `MNEMONIC ..`; `none` is an assembly error. That blanks stand
around the `*` and that a count may be 0 is the model's (DESIGN CHOICE, assumption log 19). -/
def parsePieces : List (List Char) → Option Line
  | n :: ['*'] :: rest =>
    match numberOf n with
    | some count => lineOf count rest
    | none => none
  | ps => lineOf 1 ps

/-- The words of one line of text (30_encoding R57); a line with no operation has none, and a line that spells a
pseudo-operation is an assembly error (assumption log 21). -/
def assembleText (text : List Char) : Option (List Word) :=
  match pieces [] (cutComment text) with
  | [] => some []
  | ps =>
    match parsePieces ps with
    | some l => assembleLine l
    | none => none

end Sys2Proof.Machine
end

