-- ==== Sys2Proof/Tests/Slice0.lean ====
section
/-! SUPPORT. The model's own tests (expected results from 95_test_vectors.md) and, for every statement with hypotheses, a
state and operands that meet them. -/

namespace Sys2Proof.Tests

open Sys2Proof.Machine

/-! ### Helpers -/

/-- The configuration of 95_test_vectors.md, READING and ADRES being what they came up as. -/
def demo : State := State.powerOn configDefault 0x42 0x99

/-- `demo` with the timer expired. -/
def expired : State := { demo with tmr := 0, tif := true }

/-- `demo` with another configuration. -/
def demoWith (c : Config) : State := { demo with config := c }

/-- The state after a step that answers one. -/
def after (o : Host.Outcome State Fault Refusal) : State :=
  match o with
  | .next t => t
  | .fault _ => demo
  | .refused _ => demo

/-- The step answers a next state. -/
def completes (o : Host.Outcome State Fault Refusal) : Bool :=
  match o with
  | .next _ => true
  | .fault _ => false
  | .refused _ => false

/-- `demo` with a latched result. -/
def latched : State := after (exec (.convDone 0x05) demo)

/-- One clock short of the default RELOAD. -/
def twoClocks : List Instr := [.tmrClk, .tmrClk]

theorem next_of {o : Host.Outcome State Fault Refusal} (h : completes o = true) : o = .next (after o) := by
  cases o with
  | next t => rfl
  | fault r => cases h
  | refused r => cases h

theorem demo_ready : Ready demo := ⟨by decide, rfl⟩

theorem expired_ready : Ready expired := ⟨by decide, rfl⟩

/-! ### Configurations and source lines the checks refuse (00_scope R5, 30_encoding R57) -/

theorem test_default_configuration_is_legal : configLegal configDefault = true := by decide

theorem test_zero_width_is_refused : configLegal { configDefault with tmrW := 0 } = false := by decide

theorem test_zero_reload_is_refused : configLegal { configDefault with reload := 0 } = false := by decide

theorem test_reload_beyond_width_is_refused : configLegal { configDefault with reload := 256 } = false := by decide

theorem test_reload_of_full_width_is_legal : configLegal { configDefault with reload := 255 } = true := by decide

theorem test_wrong_digit_zero_is_refused :
    configLegal { configDefault with segTable := segTableDefault.set 0 0x3E } = false := by decide

theorem test_wrong_digit_five_is_refused :
    configLegal { configDefault with segTable := segTableDefault.set 5 0x6C } = false := by decide

theorem test_table_bit_seven_is_refused :
    configLegal { configDefault with segTable := segTableDefault.set 15 0xF1 } = false := by decide

theorem test_operand_over_255_is_refused :
    Line.wellFormed { mnemonic := .convDone, operand := some 256, count := 1 } = false := by decide

theorem test_missing_operand_is_refused :
    Line.wellFormed { mnemonic := .convDone, operand := none, count := 1 } = false := by decide

theorem test_unwanted_operand_is_refused :
    Line.wellFormed { mnemonic := .cntInc, operand := some 0, count := 1 } = false := by decide

theorem test_unwanted_handler_operand_is_refused :
    Line.wellFormed { mnemonic := .takeTimer, operand := some 0, count := 1 } = false := by decide

theorem test_text_with_operand_and_comment : assembleText "CONV_DONE 0x05 ; a result".toList = some [0x3005] := by decide

theorem test_text_with_repeat_count : assembleText "3 * TMR_CLK".toList = some [0x2000, 0x2000, 0x2000] := by decide

theorem test_text_with_decimal_operand : assembleText "CONV_DONE 255".toList = some [0x30FF] := by decide

theorem test_text_out_of_range : assembleText "CONV_DONE 256".toList = none := by decide

theorem test_text_in_lower_case : assembleText "reset".toList = none := by decide

theorem test_text_comment_only : assembleText " ; nothing".toList = some [] := by decide

/-! ### Decoding, words written bit by bit as OP RSV IMM8 (30_encoding R47, R50; V-DEC) -/

theorem test_decode_reset : decode 0b0001_0000_00000000 = .ok .reset := by decide

theorem test_decode_tmr_clk : decode 0b0010_0000_00000000 = .ok .tmrClk := by decide

theorem test_decode_conv_done : decode 0b0011_0000_10100111 = .ok (.convDone 0xA7) := by decide

theorem test_decode_take_timer : decode 0b0100_0000_00000000 = .ok .takeTimer := by decide

theorem test_decode_take_sample : decode 0b0101_0000_00000000 = .ok .takeSample := by decide

theorem test_decode_cnt_inc : decode 0b0110_0000_00000000 = .ok .cntInc := by decide

theorem test_decode_cnt_dec : decode 0b0111_0000_00000000 = .ok .cntDec := by decide

theorem test_decode_rd_counter : decode 0b1000_0000_00000000 = .ok .rdCounter := by decide

theorem test_decode_rd_reading : decode 0b1001_0000_00000000 = .ok .rdReading := by decide

theorem test_decode_all_zero : decode 0x0000 = .error .reservedOpcode := by decide

theorem test_decode_reserved_opcode_first : decode 0xF123 = .error .reservedOpcode := by decide

theorem test_decode_first_reserved_opcode : decode 0xA000 = .error .reservedOpcode := by decide

theorem test_decode_nonzero_rsv : decode 0x3100 = .error .nonzeroReservedField := by decide

theorem test_decode_nonzero_imm : decode 0x2001 = .error .nonzeroReservedField := by decide

theorem test_table_word_of_conv_done : decodeTableWord 16 0x30FF = some (.convDone 0xFF) := by decide

theorem test_table_word_reserved : decodeTableWord 16 0xA000 = none := by decide

/-! ### The operations, one step each -/

/-- V-RST row 1: the output events of RESET, in order. -/
theorem test_reset_events :
    (after (exec .reset { demo with seg := 0x77, en := 0b100, outh := [] })).outh = [.en 0, .seg 0, .aux 0] := by decide

/-- V-RST row 4. -/
theorem test_reset_configured_values :
    (after (exec .reset (demoWith { configDefault with readingReset := some 0x80, phaseReset := 2 }))).reading = 0x80 ∧
    (after (exec .reset (demoWith { configDefault with readingReset := some 0x80, phaseReset := 2 }))).phase = 2 := by
  decide

/-- V-TMR: TMR=1 TIF=0 expires. -/
theorem test_tmr_clk_expires :
    (after (exec .tmrClk { demo with tmr := 1 })).tmr = 0 ∧ (after (exec .tmrClk { demo with tmr := 1 })).tif = true := by
  decide

/-- V-TMR: TMR=0 TIF=1 is held. -/
theorem test_tmr_clk_holds : (after (exec .tmrClk expired)).tmr = 0 ∧ (after (exec .tmrClk expired)).tif = true := by decide

/-- V-SMP row 1. -/
theorem test_conv_done_latches :
    (after (exec (.convDone 0x05) demo)).adres = 0x05 ∧ (after (exec (.convDone 0x05) demo)).reading = 0x42 ∧
    (after (exec (.convDone 0x05) demo)).sif = true ∧ (after (exec (.convDone 0x05) demo)).cbusy = false := by decide

/-- V-SMP row 2. -/
theorem test_conv_done_unarmed : after (exec (.convDone 0x06) { demo with cbusy := false, sif := true }) =
    { demo with cbusy := false, sif := true, result := .notTaken } := by decide

/-- V-TICK row 8: the high nibble of 0xA7 in phase 2. -/
theorem test_take_timer_high_nibble :
    (after (exec .takeTimer { expired with phase := 2, reading := 0xA7 })).outh = [.en 0b000, .seg 0x77, .en 0b100] ∧
    (after (exec .takeTimer { expired with phase := 2, reading := 0xA7 })).phase = 0 := by decide

/-- V-TICK row 11: PHASE = 3 faults; TIF stays 1, TMR stays 0. -/
theorem test_take_timer_illegal_phase : after (exec .takeTimer { expired with phase := 3 }) =
    { expired with phase := 3, faults := [.illegalPhase], result := .faulted .illegalPhase } := by decide

/-- V-SMP row 3. -/
theorem test_take_sample_publishes :
    (after (exec .takeSample { demo with sif := true, cbusy := false, adres := 0x05 })).reading = 0x05 ∧
    (after (exec .takeSample { demo with sif := true, cbusy := false, adres := 0x05 })).cbusy = true := by decide

/-- V-SMP row 6: TIMER_FIRST holds the sample handler back. -/
theorem test_take_sample_timer_first :
    (after (exec .takeSample
      { expired with sif := true, config := { configDefault with irqPriority := .timerFirst } })).result = .notTaken := by
  decide

/-- V-CNT row 3. -/
theorem test_cnt_inc_wraps :
    (after (exec .cntInc { demo with counter := 0xFF })).counter = 0x00 ∧
    (after (exec .cntInc { demo with counter := 0xFF })).outh = [.aux 0b00] := by decide

/-- V-CNT row 7: BUS_SHARED has no AUX register and no event. -/
theorem test_cnt_inc_bus_shared :
    (after (exec .cntInc { demoWith { configDefault with auxMode := .busShared } with counter := 0x02 })).outh = [] := by
  decide

/-- V-CNT row 4. -/
theorem test_cnt_dec_wraps :
    (after (exec .cntDec demo)).counter = 0xFF ∧ (after (exec .cntDec demo)).aux = 0b11 := by decide

/-- V-CNT row 5. -/
theorem test_cnt_dec_carry : (after (exec .cntDec { demo with counter := 0x80 })).counter = 0x7F := by decide

/-- V-RD row 1. -/
theorem test_rd_counter_returns : after (exec .rdCounter { demo with counter := 0xC8 }) =
    { demo with counter := 0xC8, result := .returned 0xC8 } := by decide

/-- V-RD row 2. -/
theorem test_rd_reading_returns : after (exec .rdReading { demo with reading := 0x05 }) =
    { demo with reading := 0x05, result := .returned 0x05 } := by decide

/-- 95_test_vectors S5: the alarm contract is strict. -/
theorem test_alarm_is_strict :
    alarmActive 0x05 0x00 = true ∧ alarmActive 0xC8 0xC8 = false ∧ alarmActive 0x00 0xFF = false := by decide

/-- 95_test_vectors P4: an all-zero word sets REFUSED and the block goes on. -/
theorem test_refused_word :
    (after (step { demo with input := [0x0000] })).refused = true ∧
    (after (step { demo with input := [0x0000] })).result = .refusedWord .reservedOpcode ∧
    (after (step { demo with input := [0x0000] })).faults = [] := by decide

/-- A word placed on the port of the power-on machine is the next one to run. -/
theorem test_step_runs_placed_word : (after (step (State.reset.withFetchWord 16 0x6000))).counter = 0x01 := by decide

/-! ### A witness for every statement with hypotheses -/

theorem witness_EncodeOfDecode : decode 0x30FF = .ok (.convDone 0xFF) := by decide

theorem witness_EveryWordIsOneOfThreeKinds : ∃ (s : State) (w : Word) (rest : List Word) (code : RefusalCode),
    configLegal s.config = true ∧ s.input = w :: rest ∧ decode w = .error code :=
  ⟨{ demo with input := [0x9F00] }, 0x9F00, [], .nonzeroReservedField, by decide, rfl, by decide⟩

theorem witness_LinesAssemble : Mnemonic.reset ≠ .convDone := by decide

theorem witness_StepRunsDecodedOperation : ∃ (s : State) (w : Word) (rest : List Word) (i : Instr),
    s.input = w :: rest ∧ decode w = .ok i :=
  ⟨{ demo with input := [0x9000, 0x8000] }, 0x9000, [0x8000], .rdReading, rfl, by decide⟩

theorem witness_EmptyPortWaits : configLegal demo.config = true ∧ demo.input = [] := ⟨by decide, rfl⟩

theorem witness_BadConfigHasNoMachine :
    configLegal (demoWith { configDefault with reload := 256 }).config = false := by decide

theorem witness_RefusalSetsRefused :
    (∃ s t : State, step s = .next t ∧ s.refused = true) ∧
    (∃ (s : State) (w : Word) (rest : List Word) (code : RefusalCode),
      configLegal s.config = true ∧ s.input = w :: rest ∧ decode w = .error code ∧ Ready s) :=
  ⟨⟨{ demo with refused := true, input := [0x6000] }, _, next_of (by decide), rfl⟩,
   ⟨{ demo with input := [0x0001] }, 0x0001, [], .reservedOpcode, by decide, rfl, by decide, by decide, rfl⟩⟩

theorem witness_DecodingComesBeforeEnabling :
    (configLegal demo.config = true ∧ ({ demo with faults := [.illegalPhase], input := [0x4001] } : State).input = [0x4001] ∧
      decode 0x4001 = .error .nonzeroReservedField) ∧
    (({ demo with input := [0x4000] } : State).input = [0x4000] ∧ decode 0x4000 = .ok .takeTimer ∧ demo.tif = false) :=
  ⟨⟨by decide, rfl, by decide⟩, rfl, by decide, rfl⟩

theorem witness_NoStepCases : configLegal demo.config = true := by decide

theorem witness_IllegalPhaseFault :
    (Ready { expired with phase := 3 } ∧ expired.tif = true ∧
      (expired.config.irqPriority = .sampleFirst → expired.sif = false)) ∧
    (∃ s t : State, exec .takeTimer s = .next t ∧ t.faults ≠ s.faults) ∧
    (∃ s : State, configLegal s.config = true ∧ s.faults ≠ []) :=
  ⟨⟨⟨by decide, rfl⟩, rfl, fun _ => rfl⟩,
   ⟨{ expired with phase := 3 }, _, next_of (by decide), by decide⟩,
   ⟨{ demo with faults := [.illegalPhase] }, by decide, by decide⟩⟩

theorem witness_ResetResult :
    Ready { demo with phase := 3 } ∧ (∃ s : State, configLegal s.config = true ∧ s.faults ≠ []) :=
  ⟨⟨by decide, rfl⟩, ⟨{ demo with faults := [.illegalPhase] }, by decide, by decide⟩⟩

theorem witness_PowerOnIsResetFromAnyState : Ready demo := demo_ready

theorem witness_TimerClockResult :
    (Ready { demo with tmr := 0 } ∧ ({ demo with tmr := 0 } : State).tmr = 0) ∧
    (Ready { demo with tmr := 1 } ∧ ({ demo with tmr := 1 } : State).tmr = 1) ∧
    (Ready { demo with tmr := 2 } ∧ ({ demo with tmr := 2 } : State).tmr = 0 + 2) :=
  ⟨⟨⟨by decide, rfl⟩, rfl⟩, ⟨⟨by decide, rfl⟩, rfl⟩, ⟨⟨by decide, rfl⟩, rfl⟩⟩

theorem witness_ConvDoneResult :
    (Ready demo ∧ demo.cbusy = true) ∧
    (Ready { demo with cbusy := false } ∧ ({ demo with cbusy := false } : State).cbusy = false) :=
  ⟨⟨demo_ready, rfl⟩, ⟨by decide, rfl⟩, rfl⟩

/-- Both interrupts pending, the timer first. -/
def timerFirst : State := { expired with sif := true, config := { configDefault with irqPriority := .timerFirst } }

theorem witness_TakeSampleResult :
    (Ready latched ∧ latched.sif = true ∧ (latched.config.irqPriority = .timerFirst → latched.tif = false)) ∧
    (Ready demo ∧ demo.sif = false) ∧
    (Ready timerFirst ∧ timerFirst.config.irqPriority = .timerFirst ∧ timerFirst.tif = true) :=
  ⟨⟨⟨by decide, rfl⟩, rfl, fun _ => rfl⟩, ⟨demo_ready, rfl⟩, ⟨⟨by decide, rfl⟩, rfl, rfl⟩⟩

/-- `demo` with the auxiliary lines wired to the segment bus. -/
def shared : State := demoWith { configDefault with auxMode := .busShared }

theorem witness_CntIncResult :
    (Ready { demo with counter := 255 } ∧ demo.config.auxMode = .continuous) ∧
    (Ready shared ∧ shared.config.auxMode = .busShared) :=
  ⟨⟨⟨by decide, rfl⟩, rfl⟩, ⟨⟨by decide, rfl⟩, rfl⟩⟩

theorem witness_CntDecResult :
    (Ready demo ∧ demo.config.auxMode = .continuous ∧ demo.counter = 0) ∧
    (Ready shared ∧ shared.config.auxMode = .busShared) ∧
    (∃ t u : State, Ready demo ∧ exec .cntInc demo = .next t ∧ exec .cntDec t = .next u) :=
  ⟨⟨demo_ready, rfl, rfl⟩, ⟨⟨by decide, rfl⟩, rfl⟩, ⟨_, _, demo_ready, next_of (by decide), next_of (by decide)⟩⟩

theorem witness_RdCounterResult : Ready demo ∧ ∃ t, exec (.convDone 0) demo = .next t :=
  ⟨demo_ready, _, next_of (by decide)⟩

theorem witness_RdReadingResult :
    (Ready demo ∧ ∃ t, exec .cntInc demo = .next t) ∧
    (∃ t, configLegal configDefault = true ∧ .takeSample ∉ twoClocks ∧ .reset ∉ twoClocks ∧
      execAll twoClocks (State.powerOn configDefault 0x42 0x99) = .next t) ∧
    (∃ t, exec .takeSample latched = .next t ∧ t.result = .done) :=
  ⟨⟨demo_ready, _, next_of (by decide)⟩, ⟨_, by decide, by decide, by decide, next_of (by decide)⟩,
   ⟨_, next_of (by decide), by decide⟩⟩

/-- `expired` in another phase, with the other tick order. -/
def expiredLate (p : BitVec 2) : State :=
  { expired with phase := p, config := { configDefault with tickOrder := .advanceThenRender } }

theorem witness_TickRendersPhase0 :
    (Ready expired ∧ expired.tif = true ∧ (expired.config.irqPriority = .sampleFirst → expired.sif = false) ∧
      expired.config.tickOrder = .renderThenAdvance ∧ expired.phase = 0) ∧
    (Ready (expiredLate 2) ∧ (expiredLate 2).tif = true ∧
      ((expiredLate 2).config.irqPriority = .sampleFirst → (expiredLate 2).sif = false) ∧
      (expiredLate 2).config.tickOrder = .advanceThenRender ∧ (expiredLate 2).phase = 2) :=
  ⟨⟨expired_ready, rfl, fun _ => rfl, rfl, rfl⟩, ⟨⟨by decide, rfl⟩, rfl, fun _ => rfl, rfl, rfl⟩⟩

theorem witness_TickRendersPhase1 :
    (Ready { expired with phase := 1 } ∧ expired.tif = true ∧
      (expired.config.irqPriority = .sampleFirst → expired.sif = false) ∧
      expired.config.tickOrder = .renderThenAdvance ∧ expired.config.segTable[expired.reading.toNat % 16]? = some 0x5B) ∧
    (Ready (expiredLate 0) ∧ (expiredLate 0).tif = true ∧
      ((expiredLate 0).config.irqPriority = .sampleFirst → (expiredLate 0).sif = false) ∧
      (expiredLate 0).config.tickOrder = .advanceThenRender ∧ (expiredLate 0).phase = 0 ∧
      (expiredLate 0).config.segTable[(expiredLate 0).reading.toNat % 16]? = some 0x5B) :=
  ⟨⟨⟨by decide, rfl⟩, rfl, fun _ => rfl, rfl, by decide⟩, ⟨⟨by decide, rfl⟩, rfl, fun _ => rfl, rfl, rfl, by decide⟩⟩

theorem witness_TickRendersPhase2 :
    (Ready { expired with phase := 2 } ∧ expired.tif = true ∧
      (expired.config.irqPriority = .sampleFirst → expired.sif = false) ∧
      expired.config.tickOrder = .renderThenAdvance ∧ expired.config.segTable[expired.reading.toNat / 16]? = some 0x66) ∧
    (Ready (expiredLate 1) ∧ (expiredLate 1).tif = true ∧
      ((expiredLate 1).config.irqPriority = .sampleFirst → (expiredLate 1).sif = false) ∧
      (expiredLate 1).config.tickOrder = .advanceThenRender ∧ (expiredLate 1).phase = 1 ∧
      (expiredLate 1).config.segTable[(expiredLate 1).reading.toNat / 16]? = some 0x66) :=
  ⟨⟨⟨by decide, rfl⟩, rfl, fun _ => rfl, rfl, by decide⟩, ⟨⟨by decide, rfl⟩, rfl, fun _ => rfl, rfl, rfl, by decide⟩⟩

theorem witness_BlankDriveSelect : ∃ t, exec .takeTimer expired = .next t ∧ t.result = .done :=
  ⟨_, next_of (by decide), by decide⟩

theorem witness_PhaseSequence :
    (∃ t, exec .takeTimer { expired with phase := 2 } = .next t ∧ t.result = .done) ∧
    (∃ t, exec .takeTimer expired = .next t ∧ t.phase ≠ expired.phase) ∧
    (Ready expired ∧ takeable .timer expired = true ∧ expired.phase.toNat < 3) :=
  ⟨⟨_, next_of (by decide), by decide⟩, ⟨_, next_of (by decide), by decide⟩, ⟨expired_ready, by decide, by decide⟩⟩

theorem witness_DigitPatterns :
    configLegal configDefault = true ∧
    (∃ t, exec .takeTimer { expired with phase := 1 } = .next t ∧ t.result = .done ∧ t.en ≠ 0b001) :=
  ⟨by decide, _, next_of (by decide), by decide, by decide⟩

theorem witness_DispatchOrder :
    Ready { expired with sif := true } ∧ expired.phase ≠ 3 ∧ expired.tif = true := ⟨⟨by decide, rfl⟩, by decide, rfl⟩

/-- `expired` in phase `p` with a result waiting to be published as well. -/
def bothPending (p : BitVec 2) : State := { expired with sif := true, cbusy := false, adres := 0x05, phase := p }

theorem witness_HandlerOrderIsObservable :
    (Ready (bothPending 1) ∧ (bothPending 1).config.irqPriority = .unordered ∧ (bothPending 1).tif = true ∧
      (bothPending 1).sif = true ∧ renderedPhase (bothPending 1) = 1 ∧ (bothPending 1).phase ≠ 3) ∧
    (Ready (bothPending 2) ∧ (bothPending 2).config.irqPriority = .unordered ∧ (bothPending 2).tif = true ∧
      (bothPending 2).sif = true ∧ renderedPhase (bothPending 2) = 2 ∧ (bothPending 2).phase ≠ 3) :=
  ⟨⟨⟨by decide, rfl⟩, rfl, rfl, rfl, rfl, by decide⟩, ⟨⟨by decide, rfl⟩, rfl, rfl, rfl, rfl, by decide⟩⟩

theorem witness_SingleWriter :
    (∃ t, exec .cntInc demo = .next t ∧ t.counter ≠ demo.counter ∧ t.aux ≠ demo.aux) ∧
    (∃ t, exec .takeSample { demo with sif := true } = .next t ∧ t.reading ≠ demo.reading) ∧
    (∃ t, exec .takeTimer { expired with counter := 1 } = .next t ∧ t.phase ≠ expired.phase ∧ t.seg ≠ expired.seg ∧
      t.en ≠ expired.en ∧ t.tmr ≠ expired.tmr ∧ t.tif ≠ expired.tif) ∧
    (∃ t, exec (.convDone 5) demo = .next t ∧ t.adres ≠ demo.adres ∧ t.sif ≠ demo.sif ∧ t.cbusy ≠ demo.cbusy) ∧
    (∃ t, exec .takeTimer { expired with phase := 3 } = .next t ∧ t.faults ≠ expired.faults) :=
  ⟨⟨_, next_of (by decide), by decide, by decide⟩, ⟨_, next_of (by decide), by decide⟩,
   ⟨_, next_of (by decide), by decide, by decide, by decide, by decide, by decide⟩,
   ⟨_, next_of (by decide), by decide, by decide, by decide⟩, ⟨_, next_of (by decide), by decide⟩⟩

theorem witness_SharedCellsAreNeverTorn :
    (∃ t, exec .takeSample { demo with sif := true } = .next t ∧ t.reading ≠ demo.reading) ∧
    (∃ t, exec .cntDec demo = .next t ∧ t.counter ≠ demo.counter) ∧
    (∃ t, exec (.convDone 7) demo = .next t ∧ t.adres = 7) ∧
    (∃ t, exec .rdCounter demo = .next t ∧ t.result = .returned 0x00) ∧
    (∃ t, exec .rdReading demo = .next t ∧ t.result = .returned 0x42) :=
  ⟨⟨_, next_of (by decide), by decide⟩, ⟨_, next_of (by decide), by decide⟩, ⟨_, next_of (by decide), by decide⟩,
   ⟨_, next_of (by decide), by decide⟩, ⟨_, next_of (by decide), by decide⟩⟩

theorem witness_ConfigurationIsConstant : ∃ t, step demo = .next t := ⟨_, next_of (by decide)⟩

theorem witness_PowerOnMeetsInvariants : configLegal { configDefault with tmrW := 1, reload := 1 } = true := by decide

/-- `demo` meets the invariant of the reachable states. -/
theorem demo_run_invariant : RunInvariant demo :=
  { ready := demo_ready
    base :=
      { phaseLegal := by decide
        enLegal := .inl rfl
        auxFollows := fun _ => rfl
        tifAtZero := fun h => by cases h
        sifUnarmed := fun h => by cases h
        armedNoSif := fun _ => rfl }
    tmrBound := by decide
    zeroIsPending := by decide
    armedOrPending := rfl }

theorem demo_history_invariant : HistoryInvariant demo :=
  { instants := fun h hp => by
      have hn : h = [] := List.prefix_nil.1 hp
      subst hn
      exact .inl rfl
    now := rfl }

theorem witness_OperationsKeepStateInvariant :
    (∃ t, exec .reset { demo with phase := 3, en := 0b111 } = .next t ∧ t.result = .done) ∧
    StateInvariant demo ∧ (∃ t, exec .cntInc demo = .next t) :=
  ⟨⟨_, next_of (by decide), by decide⟩, demo_run_invariant.base, ⟨_, next_of (by decide)⟩⟩

theorem witness_StepKeepsRunInvariant : RunInvariant demo ∧ ∃ t, step demo = .next t :=
  ⟨demo_run_invariant, _, next_of (by decide)⟩

theorem witness_StepKeepsHistoryInvariant : HistoryInvariant demo ∧ ∃ t, step demo = .next t :=
  ⟨demo_history_invariant, _, next_of (by decide)⟩

theorem witness_EveryRunIsMutuallyExclusive : configLegal configDefault = true ∧
    ∃ t, runSteps 2 { State.powerOn configDefault 0 0 with input := [0x2000, 0x2000] } = .next t :=
  ⟨by decide, _, next_of (by decide)⟩

theorem witness_NoRunStops : configLegal { configDefault with irqPriority := .sampleFirst } = true := by decide

theorem witness_PowerOnAdresIsNeverSeen : configLegal configDefault = true ∧
    (∃ t, runSteps 1 { State.powerOn configDefault 0 1 with input := [0x3005] } = .next t ∧ t.sif = true) ∧
    (∃ u, runSteps 1 { State.powerOn configDefault 0 2 with input := [0x3005] } = .next u) :=
  ⟨by decide, ⟨_, next_of (by decide), by decide⟩, ⟨_, next_of (by decide)⟩⟩

/-- The state after RESET of `demo`. -/
def fresh : State := after (exec .reset demo)

theorem fresh_of_reset : exec .reset demo = .next fresh ∧ fresh.result = .done := ⟨next_of (by decide), by decide⟩

theorem witness_OneLineAfterEveryTick :
    (∃ t, exec .takeTimer expired = .next t ∧ t.result = .done) ∧
    (∃ u, exec .reset demo = .next fresh ∧ fresh.result = .done ∧ execAll [.tmrClk, .takeTimer] fresh = .next u ∧
      countSteps isTick [.tmrClk, .takeTimer] fresh = 0) :=
  ⟨⟨_, next_of (by decide), by decide⟩, ⟨_, fresh_of_reset.1, fresh_of_reset.2, next_of (by decide), by decide⟩⟩

theorem witness_AuxLinesFollowMode :
    (demo.config.auxMode = .continuous ∧ demo.aux = lowTwo demo.counter ∧ ∃ t, exec .cntDec demo = .next t ∧ t.result = .done) ∧
    (∃ t, exec .cntInc (demoWith { configDefault with auxMode := .busShared }) = .next t) :=
  ⟨⟨rfl, by decide, _, next_of (by decide), by decide⟩, ⟨_, next_of (by decide)⟩⟩

theorem witness_CounterLaws : (Ready demo ∧ demo.counter = 0) ∧ Ready { demo with counter := 255 } :=
  ⟨⟨demo_ready, rfl⟩, ⟨by decide, rfl⟩⟩

theorem witness_PressesDecideCounter :
    (Ready demo ∧ (∃ t, exec .cntInc demo = .next t ∧ t.counter ≠ demo.counter) ∧ ∃ t, exec .cntDec demo = .next t) ∧
    (∃ u, .reset ∉ [Instr.cntDec, .cntInc] ∧ execAll [.cntDec, .cntInc] fresh = .next u) :=
  ⟨⟨demo_ready, ⟨_, next_of (by decide), by decide⟩, ⟨_, next_of (by decide)⟩⟩, ⟨_, by decide, next_of (by decide)⟩⟩

/-- The state after the tick of `expired`. -/
def ticked : State := after (exec .takeTimer expired)

theorem ticked_of_expired : exec .takeTimer expired = .next ticked ∧ ticked.result = .done :=
  ⟨next_of (by decide), by decide⟩

theorem witness_ExpiryAfterReload :
    (Ready { demo with tmr := 1 } ∧ ({ demo with tmr := 1 } : State).tmr = 1) ∧
    (∃ t, exec .tmrClk { demo with tmr := 1 } = .next t ∧ demo.tif = false ∧ t.tif = true) ∧
    (∃ t, expired.tmr = 0 ∧ .reset ∉ twoClocks ∧ countSteps isTick twoClocks expired = 0 ∧
      execAll twoClocks expired = .next t) ∧
    (∃ u, exec .takeTimer expired = .next ticked ∧ ticked.result = .done ∧ .reset ∉ twoClocks ∧
      execAll twoClocks ticked = .next u ∧ twoClocks.count .tmrClk < ticked.config.reload) ∧
    (∃ u, execAll (twoClocks ++ [.tmrClk]) ticked = .next u ∧ twoClocks.count .tmrClk + 1 = ticked.config.reload) :=
  ⟨⟨⟨by decide, rfl⟩, rfl⟩, ⟨_, next_of (by decide), rfl, by decide⟩, ⟨_, rfl, by decide, by decide, next_of (by decide)⟩,
   ⟨_, ticked_of_expired.1, ticked_of_expired.2, by decide, next_of (by decide), by decide⟩,
   ⟨_, next_of (by decide), by decide⟩⟩

theorem witness_FirstExpiryAfterReset :
    (exec .reset demo = .next fresh ∧ fresh.result = .done ∧ .reset ∉ twoClocks) ∧
    (∃ u, execAll twoClocks fresh = .next u ∧ twoClocks.count .tmrClk < fresh.config.reload) ∧
    (∃ u, execAll (twoClocks ++ [.tmrClk]) fresh = .next u ∧ twoClocks.count .tmrClk + 1 = fresh.config.reload) :=
  ⟨⟨fresh_of_reset.1, fresh_of_reset.2, by decide⟩, ⟨_, next_of (by decide), by decide⟩, ⟨_, next_of (by decide), by decide⟩⟩

/-- The three clocks of one period at the default RELOAD. -/
def threeClocks : List Instr := [.tmrClk, .tmrClk, .tmrClk]

/-- The state after one period from `ticked`. -/
def waited : State := after (execAll threeClocks ticked)

theorem witness_PeriodIsReloadPlusLatency :
    exec .takeTimer expired = .next ticked ∧ ticked.result = .done ∧ .reset ∉ threeClocks ∧
    execAll threeClocks ticked = .next waited ∧ countSteps isTick threeClocks ticked = 0 ∧
    (∃ v, exec .takeTimer waited = .next v ∧ v.result = .done) :=
  ⟨ticked_of_expired.1, ticked_of_expired.2, by decide, next_of (by decide), by decide, _, next_of (by decide), by decide⟩

/-- `demo` one clock before its expiry. -/
def almost : State := { demo with tmr := 1 }

theorem almost_run_invariant : RunInvariant almost :=
  { ready := ⟨by decide, rfl⟩
    base := { demo_run_invariant.base with tifAtZero := fun h => by cases h }
    tmrBound := by decide
    zeroIsPending := by decide
    armedOrPending := rfl }

/-- `expired` meets the invariant of the reachable states. -/
theorem expired_run_invariant : RunInvariant expired :=
  { ready := expired_ready
    base := { demo_run_invariant.base with tifAtZero := fun _ => rfl }
    tmrBound := by decide
    zeroIsPending := by decide
    armedOrPending := rfl }

theorem witness_OneTickPerExpiry :
    (RunInvariant expired ∧ .reset ∉ threeClocks ∧ exec .takeTimer expired = .next ticked ∧ ticked.result = .done ∧
      execAll threeClocks ticked = .next waited ∧ countSteps isTick threeClocks ticked = 0 ∧
      ∃ v, exec .takeTimer waited = .next v ∧ v.result = .done) ∧
    (RunInvariant almost ∧ ∃ t u v, .reset ∉ [Instr.takeTimer, .tmrClk, .tmrClk] ∧ exec .tmrClk almost = .next t ∧
      isExpiry almost .tmrClk t = true ∧ execAll [.takeTimer, .tmrClk, .tmrClk] t = .next u ∧
      countSteps isExpiry [.takeTimer, .tmrClk, .tmrClk] t = 0 ∧ exec .tmrClk u = .next v ∧ isExpiry u .tmrClk v = true) :=
  ⟨⟨expired_run_invariant, by decide, ticked_of_expired.1, ticked_of_expired.2, next_of (by decide), by decide, _,
     next_of (by decide), by decide⟩,
   ⟨almost_run_invariant, _, _, _, by decide, next_of (by decide), by decide, next_of (by decide), by decide,
     next_of (by decide), by decide⟩⟩

theorem witness_RoundRobin : ∃ t₂ u₂ t₃, .reset ∉ threeClocks ∧
    exec .takeTimer expired = .next ticked ∧ ticked.result = .done ∧ execAll threeClocks ticked = .next waited ∧
    countSteps isTick threeClocks ticked = 0 ∧ exec .takeTimer waited = .next t₂ ∧ t₂.result = .done ∧
    execAll threeClocks t₂ = .next u₂ ∧ countSteps isTick threeClocks t₂ = 0 ∧
    exec .takeTimer u₂ = .next t₃ ∧ t₃.result = .done :=
  ⟨_, _, _, by decide, ticked_of_expired.1, ticked_of_expired.2, next_of (by decide), by decide, next_of (by decide),
   by decide, next_of (by decide), by decide, next_of (by decide), by decide⟩

theorem witness_FirstTicksAfterReset : ∃ u₀ t₁ u₁ t₂ u₂ t₃ : State, .reset ∉ threeClocks ∧
    execAll threeClocks fresh = .next u₀ ∧ countSteps isTick threeClocks fresh = 0 ∧
    exec .takeTimer u₀ = .next t₁ ∧ t₁.result = .done ∧
    execAll threeClocks t₁ = .next u₁ ∧ countSteps isTick threeClocks t₁ = 0 ∧
    exec .takeTimer u₁ = .next t₂ ∧ t₂.result = .done ∧
    execAll threeClocks t₂ = .next u₂ ∧ countSteps isTick threeClocks t₂ = 0 ∧
    exec .takeTimer u₂ = .next t₃ ∧ t₃.result = .done ∧
    exec .reset demo = .next fresh ∧ fresh.result = .done ∧ demo.config.phaseReset = 0 ∧ demo.config.tickOrder = .renderThenAdvance :=
  ⟨_, _, _, _, _, _, by decide, next_of (by decide), by decide, next_of (by decide), by decide, next_of (by decide),
   by decide, next_of (by decide), by decide, next_of (by decide), by decide, next_of (by decide), by decide, fresh_of_reset.1,
   fresh_of_reset.2, rfl, rfl⟩

theorem witness_DisplayHoldsBetweenTicks :
    ∃ t, .reset ∉ [Instr.cntInc, .convDone 7] ∧ execAll [.cntInc, .convDone 7] ticked = .next t ∧
      countSteps isTick [.cntInc, .convDone 7] ticked = 0 :=
  ⟨_, by decide, next_of (by decide), by decide⟩

theorem witness_LatchedResultIsPublished : ∃ t u, latched.sif = true ∧ latched.cbusy = false ∧
    .reset ∉ [Instr.convDone 0x06] ∧ .takeSample ∉ [Instr.convDone 0x06] ∧
    execAll [.convDone 0x06] latched = .next t ∧ exec .takeSample t = .next u ∧ u.result = .done :=
  ⟨_, _, by decide, by decide, by decide, by decide, next_of (by decide), next_of (by decide), by decide⟩

theorem witness_StaleReading : ∃ t, Ready demo ∧ demo.sif = false ∧ .reset ∉ List.replicate 3 Instr.tmrClk ∧
    (∀ v, .convDone v ∉ List.replicate 3 Instr.tmrClk) ∧ execAll (List.replicate 3 .tmrClk) demo = .next t ∧
    t.tif = true ∧ t.phase ≠ 3 ∧ t.faults = [] :=
  ⟨_, demo_ready, rfl, by decide, fun v h => by simp at h, next_of (by decide), by decide, by decide, by decide⟩

theorem witness_PseudoOperationsWork :
    Ready demo ∧ demo.tmr = demo.config.reload ∧ demo.tif = false ∧ demo.phase ≠ 3 ∧
    (demo.config.irqPriority = .sampleFirst → demo.sif = false) ∧ demo.cbusy = true :=
  ⟨demo_ready, rfl, rfl, by decide, fun _ => rfl, rfl⟩

/-- A fair schedule: three timer clocks, then each handler is offered. -/
def fairOps (n : Nat) : Instr :=
  match n % 5 with
  | 3 => .takeTimer
  | 4 => .takeSample
  | _ => .tmrClk

/-- The states that the schedule leads through from `demo`. -/
def fairStates : Nat → State
  | 0 => demo
  | n + 1 => after (exec (fairOps n) (fairStates n))

theorem fairStates_legal (n : Nat) : configLegal (fairStates n).config = true := by
  induction n with
  | zero => exact demo_ready.1
  | succ n ih =>
    obtain ⟨t, ht⟩ := exec_total (fairOps n) ih
    rw [fairStates, ht, after, exec_config ht]
    exact ih

theorem fairRun : EndlessRun fairOps fairStates := by
  intro n
  obtain ⟨t, ht⟩ := exec_total (fairOps n) (fairStates_legal n)
  rw [fairStates, ht, after]

theorem witness_EveryDigitIsRefreshedForever :
    RunInvariant (fairStates 0) ∧ EndlessRun fairOps fairStates ∧ (∀ n, fairOps n ≠ .reset) ∧ FairTimebase fairOps ∧
    FairDispatch fairOps fairStates ∧ (fairStates 0).config.irqPriority ≠ .sampleFirst := by
  refine ⟨demo_run_invariant, fairRun, ?_, ?_, ?_, by decide⟩
  · intro n
    unfold fairOps
    split <;> decide
  · intro n
    exact ⟨5 * n, by omega, by simp [fairOps]⟩
  · intro src n _
    cases src with
    | timer => exact ⟨5 * n + 3, by omega, by simp [fairOps, handlerOf]⟩
    | sample => exact ⟨5 * n + 4, by omega, by simp [fairOps, handlerOf]⟩

end Sys2Proof.Tests
end

section
/-! SUPPORT. A configuration outside 00_scope R5: which ones they are, and that neither the port nor any operation has a
step under one. -/

namespace Sys2Proof.Machine

/-- The list of 00_scope R5, read off `configLegal_iff` by De Morgan. -/
theorem configLegal_eq_false_iff (c : Config) : configLegal c = false ↔
    (c.tmrW = 0 ∨ c.reload = 0 ∨ c.reload > 2 ^ c.tmrW - 1 ∨ c.segTable[0] ≠ 0x3F ∨ c.segTable[5] ≠ 0x6D ∨
      ∃ n : Fin 16, (c.segTable[n]).getLsbD 7 = true) := by
  rw [← Bool.not_eq_true, configLegal_iff]
  simp only [not_and_or, not_le, Nat.lt_one_iff, not_forall, Bool.not_eq_false, gt_iff_lt, ne_eq]

theorem waitForWord_badConfig {s : State} (hc : configLegal s.config = false) :
    waitForWord s = .refused .badConfig := by
  simp [waitForWord, hc]

theorem takeRefusal_badConfig {code : RefusalCode} {s : State} (hc : configLegal s.config = false) :
    takeRefusal code s = .refused .badConfig := by
  simp [takeRefusal, hc]

/-- BAD_CONFIG is answered whatever stands on the port: nothing, a well-formed word or a malformed one. -/
theorem step_badConfig {s : State} (hc : configLegal s.config = false) : step s = .refused .badConfig := by
  cases hi : s.input with
  | nil => rw [step_empty hi, waitForWord_badConfig hc]
  | cons w rest =>
    have hw : configLegal (withdrawWord s).config = false := by rwa [withdrawWord_config]
    rw [step_word hi]
    cases decode w with
    | ok i => exact exec_badConfig hw
    | error code => exact takeRefusal_badConfig hw

/-- Settles O10: R5's list by `configLegal_eq_false_iff`; no step and no operation by `step_badConfig` and
`exec_badConfig`. -/
theorem badConfigHasNoMachine : Obligations.BadConfigHasNoMachine :=
  ⟨configLegal_eq_false_iff, fun _ hc => ⟨step_badConfig hc, fun _ => exec_badConfig hc⟩⟩

end Sys2Proof.Machine
end

section
/-! SUPPORT. The auxiliary lines (10_state R21): the three operations that write COUNTER drive AUX with it in CONTINUOUS mode,
and nothing else touches AUX. -/

namespace Sys2Proof.Machine

/-- The operations that write COUNTER (10_state R16). -/
def WritesCounter (i : Instr) : Prop := i = .cntInc ∨ i = .cntDec ∨ i = .reset

/-- AUX shows COUNTER[1:0], and the last event says so. -/
def ShowsCounter (t : State) : Prop :=
  t.aux = lowTwo t.counter ∧ t.outh.getLast? = some (.aux (lowTwo t.counter))

/-- From `s` to `t` the register AUX is not written and no AUX event is emitted. -/
def KeepsAux (s t : State) : Prop :=
  t.aux = s.aux ∧ ∀ v : BitVec 2, t.outh.count (.aux v) = s.outh.count (.aux v)

theorem keepsAux_of_eq {s t : State} (haux : t.aux = s.aux) (houth : t.outh = s.outh) : KeepsAux s t :=
  ⟨haux, fun _ => by rw [houth]⟩

theorem keepsAux_notTaken (s : State) : KeepsAux s (notTaken s) := keepsAux_of_eq rfl rfl

theorem keepsAux_tick (s : State) : KeepsAux s (tick s) := by
  simp [KeepsAux, tick_eq, List.count_append]

theorem writeCounter_aux_cases (c : Byte) (s : State) :
    (s.config.auxMode = .continuous ∧ ShowsCounter (writeCounter c s)) ∨
      (s.config.auxMode = .busShared ∧ KeepsAux s (writeCounter c s)) := by
  obtain ⟨hm, e⟩ | ⟨hm, e⟩ := writeCounter_cases c s
  · exact .inl ⟨hm, by simp [ShowsCounter, e]⟩
  · exact .inr ⟨hm, by simp [KeepsAux, e]⟩

theorem resetBody_aux_cases (s : State) :
    (s.config.auxMode = .continuous ∧ ShowsCounter (resetBody s)) ∨
      (s.config.auxMode = .busShared ∧ KeepsAux s (resetBody s)) := by
  obtain ⟨r, a, n, ⟨hm, e⟩ | ⟨hm, e⟩⟩ := resetBody_cases s
  · exact .inl ⟨hm, by simp [ShowsCounter, e, lowTwo]⟩
  · exact .inr ⟨hm, by simp [KeepsAux, e, List.count_append]⟩

/-- A writer of COUNTER drives AUX in CONTINUOUS mode, and leaves it alone in BUS_SHARED mode. -/
theorem opEffect_aux_of_writesCounter {i : Instr} (hw : WritesCounter i) (s : State) :
    (s.config.auxMode = .continuous ∧ ShowsCounter (opEffect i s)) ∨
      (s.config.auxMode = .busShared ∧ KeepsAux s (opEffect i s)) := by
  obtain rfl | rfl | rfl := hw
  · exact writeCounter_aux_cases _ s
  · exact writeCounter_aux_cases _ s
  · exact resetBody_aux_cases s

/-- The other operations touch neither COUNTER nor AUX. -/
theorem opEffect_aux_of_not_writesCounter {i : Instr} (hw : ¬ WritesCounter i) (s : State) :
    (opEffect i s).counter = s.counter ∧ KeepsAux s (opEffect i s) := by
  cases i with
  | reset => exact absurd (.inr (.inr rfl)) hw
  | cntInc => exact absurd (.inl rfl) hw
  | cntDec => exact absurd (.inr (.inl rfl)) hw
  | tmrClk =>
    obtain ⟨-, e⟩ | ⟨-, e⟩ | ⟨-, e⟩ := timerClock_cases s <;> simp [opEffect, e, KeepsAux]
  | takeTimer =>
    obtain ⟨-, e⟩ | ⟨-, e⟩ := timerHandler_cases s <;> rw [opEffect, e]
    · exact ⟨rfl, keepsAux_of_eq rfl rfl⟩
    · exact ⟨rfl, keepsAux_tick s⟩
  | convDone v => exact ⟨rfl, keepsAux_of_eq rfl rfl⟩
  | takeSample => exact ⟨rfl, keepsAux_of_eq rfl rfl⟩
  | rdCounter => exact ⟨rfl, keepsAux_of_eq rfl rfl⟩
  | rdReading => exact ⟨rfl, keepsAux_of_eq rfl rfl⟩

/-- Everything an operation can do to AUX: drive it with the new COUNTER, leave it and COUNTER, or leave it because the
lines are not its own. -/
theorem exec_aux_cases {i : Instr} {s t : State} (h : exec i s = .next t) :
    (s.config.auxMode = .continuous ∧ ShowsCounter t) ∨
      (KeepsAux s t ∧ (t.counter = s.counter ∨ s.config.auxMode = .busShared)) := by
  obtain ⟨-, ⟨rfl, -⟩ | ⟨-, -, rfl⟩⟩ := exec_cases h
  · exact .inr ⟨keepsAux_notTaken s, .inl rfl⟩
  by_cases hw : WritesCounter i
  · obtain ⟨hm, hs⟩ | ⟨hm, hk⟩ := opEffect_aux_of_writesCounter hw (accept s)
    · exact .inl ⟨hm, hs⟩
    · exact .inr ⟨hk, .inr hm⟩
  · obtain ⟨hc, hk⟩ := opEffect_aux_of_not_writesCounter hw (accept s)
    exact .inr ⟨hk, .inl hc⟩

/-- The invariant of R21: in CONTINUOUS mode every operation keeps AUX = COUNTER[1:0]. -/
theorem exec_aux_follows {i : Instr} {s t : State} (hm : s.config.auxMode = .continuous) (ha : s.aux = lowTwo s.counter)
    (h : exec i s = .next t) : t.aux = lowTwo t.counter := by
  obtain ⟨-, hs, -⟩ | ⟨⟨hk, -⟩, hc | hb⟩ := exec_aux_cases h
  · exact hs
  · rw [hk, hc, ha]
  · rw [hm] at hb; cases hb

/-- In CONTINUOUS mode a writer of COUNTER that is accepted drives AUX last. -/
theorem exec_showsCounter {i : Instr} {s t : State} (hm : s.config.auxMode = .continuous) (hw : WritesCounter i)
    (h : exec i s = .next t) (hd : t.result = .done) : ShowsCounter t := by
  obtain ⟨-, ⟨rfl, -⟩ | ⟨-, -, rfl⟩⟩ := exec_cases h
  · simp at hd
  · obtain ⟨-, hs⟩ | ⟨hb, -⟩ := opEffect_aux_of_writesCounter hw (accept s)
    · exact hs
    · rw [accept_config, hm] at hb; cases hb

/-- In BUS_SHARED mode no operation touches AUX. -/
theorem exec_keepsAux {i : Instr} {s t : State} (hm : s.config.auxMode = .busShared) (h : exec i s = .next t) :
    KeepsAux s t := by
  obtain ⟨hc, -⟩ | ⟨hk, -⟩ := exec_aux_cases h
  · rw [hm] at hc; cases hc
  · exact hk

theorem auxLines_continuous {c : Config} (hm : c.auxMode = .continuous) (p : Pins) : auxLines c p = p.aux := by
  simp [auxLines, hm]

theorem auxLines_busShared {c : Config} (hm : c.auxMode = .busShared) (p : Pins) : auxLines c p = lowTwo p.seg := by
  simp [auxLines, hm]

/-- Settles O43: `exec_aux_follows` and `exec_showsCounter` in CONTINUOUS mode, `exec_keepsAux` in BUS_SHARED mode, and
what the lines show by `auxLines_continuous` and `auxLines_busShared`. -/
theorem auxLinesFollowMode : Obligations.AuxLinesFollowMode := by
  refine ⟨fun c r a => ⟨rfl, rfl⟩, fun i s t hm ha h => exec_aux_follows hm ha h, ?_, ?_⟩
  · intro i s t hm hw h hd
    obtain ⟨haux, hlast⟩ := exec_showsCounter hm hw h hd
    have hmt : t.config.auxMode = .continuous := by rw [exec_config h, hm]
    exact ⟨hlast, (auxLines_continuous hmt (pinsOf t)).trans haux⟩
  · intro i s t hm h
    have hmt : t.config.auxMode = .busShared := by rw [exec_config h, hm]
    exact ⟨auxLines_busShared hmt, auxLines_busShared hmt (pinsOf t), exec_keepsAux hm h⟩

end Sys2Proof.Machine
end

section
/-! SUPPORT. The three kinds of word (30_encoding R52 to R55): what the decoder answers for each, and what one step does
with the answer (R56). -/

namespace Sys2Proof

/-- 30_encoding R52: the words whose OP names no operation. -/
def HasReservedOpcode (w : Word) : Prop := opField w = 0 ∨ 0xA#4 ≤ opField w

/-- 30_encoding R51, R53: a field that must be zero is not. Only CONV_DONE (OP 3) has an operand in IMM8. -/
def HasNonzeroReservedField (w : Word) : Prop := rsvField w ≠ 0 ∨ (opField w ≠ 3 ∧ immField w ≠ 0)

theorem hasReservedOpcode_iff (w : Word) :
    HasReservedOpcode w ↔ (w.toNat / 4096 = 0 ∨ 10 ≤ w.toNat / 4096) :=
  reserved_iff w

theorem hasNonzeroReservedField_iff (w : Word) : HasNonzeroReservedField w ↔
    (w.toNat / 256 % 16 ≠ 0 ∨ (w.toNat / 4096 ≠ 3 ∧ w.toNat % 256 ≠ 0)) := by
  simp [HasNonzeroReservedField, ← opField_toNat, ← rsvField_toNat, ← immField_toNat, ← BitVec.toNat_inj]

/-! ### The encoder answers the decoder -/

theorem word_ext_fields {w v : Word} (hop : opField w = opField v) (hrsv : rsvField w = rsvField v)
    (himm : immField w = immField v) : w = v := by
  apply BitVec.eq_of_toNat_eq
  rw [word_of_fields w, word_of_fields v, hop, hrsv, himm]

/-- An operation without an operand is encoded with its OP and zeros (30_encoding R50). -/
theorem fields_encode_plainOperation : ∀ op : Nibble, ∀ i ∈ (plainOperation op).toOption,
    opField (encode i) = op ∧ rsvField (encode i) = 0 ∧ immField (encode i) = 0 := by decide

theorem encode_convDone_immField {w : Word} (hop : opField w = 3) (hrsv : rsvField w = 0) :
    encode (.convDone (immField w)) = w :=
  word_ext_fields (by rw [opField_encode_convDone, hop]) (by rw [rsvField_encode_convDone, hrsv])
    (immField_encode_convDone _)

theorem encode_of_plainOperation {w : Word} {i : Instr} (hp : plainOperation (opField w) = .ok i)
    (hrsv : rsvField w = 0) (himm : immField w = 0) : encode i = w := by
  obtain ⟨hop, hr, hm⟩ := fields_encode_plainOperation (opField w) i (by rw [hp]; rfl)
  exact word_ext_fields hop (hr.trans hrsv.symm) (hm.trans himm.symm)

/-! ### The decoder's answers -/

theorem decode_reservedOpcode {w : Word} (h : HasReservedOpcode w) : decode w = .error .reservedOpcode :=
  if_pos h

theorem decode_nonzeroReservedField {w : Word} (hop : ¬ HasReservedOpcode w) (h : HasNonzeroReservedField w) :
    decode w = .error .nonzeroReservedField := by
  rw [HasReservedOpcode] at hop
  rw [decode, if_neg hop]
  obtain hrsv | ⟨h3, himm⟩ := h
  · rw [if_pos hrsv]
  · rw [if_neg h3, if_pos himm, ite_self]

/-- A word that neither check refuses is the word of an operation. -/
theorem decode_operation {w : Word} (hop : ¬ HasReservedOpcode w) (h : ¬ HasNonzeroReservedField w) :
    ∃ i, decode w = .ok i ∧ encode i = w := by
  obtain ⟨hrsv, himm⟩ := not_or.1 h
  rw [HasReservedOpcode] at hop
  rw [decode, if_neg hop, if_neg hrsv]
  by_cases h3 : opField w = 3
  · rw [if_pos h3]
    exact ⟨_, rfl, encode_convDone_immField h3 (not_not.1 hrsv)⟩
  · have himm0 : ¬ immField w ≠ 0 := fun hne => himm ⟨h3, hne⟩
    obtain ⟨i, hi⟩ := plainOperation_total hop h3
    rw [if_neg h3, if_neg himm0]
    exact ⟨i, hi, encode_of_plainOperation hi (not_not.1 hrsv) (not_not.1 himm0)⟩

/-- Everything `decode` can answer (30_encoding R54), in the order of R55's checks. -/
theorem decode_cases (w : Word) :
    (HasReservedOpcode w ∧ decode w = .error .reservedOpcode) ∨
    (¬ HasReservedOpcode w ∧ HasNonzeroReservedField w ∧ decode w = .error .nonzeroReservedField) ∨
    (¬ HasReservedOpcode w ∧ ¬ HasNonzeroReservedField w ∧ ∃ i, decode w = .ok i ∧ encode i = w) := by
  by_cases hop : HasReservedOpcode w
  · exact .inl ⟨hop, decode_reservedOpcode hop⟩
  by_cases h : HasNonzeroReservedField w
  · exact .inr (.inl ⟨hop, h, decode_nonzeroReservedField hop h⟩)
  · exact .inr (.inr ⟨hop, h, decode_operation hop h⟩)

theorem decode_eq_reservedOpcode_iff (w : Word) : decode w = .error .reservedOpcode ↔ HasReservedOpcode w := by
  obtain ⟨hop, hd⟩ | ⟨hop, -, hd⟩ | ⟨hop, -, i, hd, -⟩ := decode_cases w
  all_goals simp [hd, hop]

theorem decode_eq_nonzeroReservedField_iff (w : Word) :
    decode w = .error .nonzeroReservedField ↔ ¬ HasReservedOpcode w ∧ HasNonzeroReservedField w := by
  obtain ⟨hop, hd⟩ | ⟨hop, h, hd⟩ | ⟨-, h, i, hd, -⟩ := decode_cases w
  · simp [hd, hop]
  · simp [hd, hop, h]
  · simp [hd, h]

theorem decode_encode (i : Instr) : decode (encode i) = .ok i := by
  cases i with
  | convDone v =>
    simp [decode, opField_encode_convDone, rsvField_encode_convDone, immField_encode_convDone]
  | reset | tmrClk | takeTimer | takeSample | cntInc | cntDec | rdCounter | rdReading => rfl

theorem not_hasReservedOpcode_encode (i : Instr) : ¬ HasReservedOpcode (encode i) := fun h => by
  have hd := decode_reservedOpcode h
  rw [decode_encode] at hd
  cases hd

end Sys2Proof

namespace Sys2Proof.Machine

/-! ### The step on a presented word -/

theorem withdrawWord_eq {s : State} {w : Word} {rest : List Word} (hi : s.input = w :: rest) :
    withdrawWord s = { s with input := rest } := by
  rw [withdrawWord, hi, List.tail_cons]

theorem step_operation {s : State} {w : Word} {rest : List Word} {i : Instr} (hi : s.input = w :: rest)
    (hd : decode w = .ok i) : step s = exec i { s with input := rest } := by
  rw [step_word hi, hd, withdrawWord_eq hi]

/-- No hypothesis on FAULTS: the decoder comes first (30_encoding R56). -/
theorem step_refusedWord {s : State} {w : Word} {rest : List Word} {code : RefusalCode}
    (hc : configLegal s.config = true) (hi : s.input = w :: rest) (hd : decode w = .error code) :
    step s = .next { s with input := rest, refused := true, result := .refusedWord code } := by
  rw [step_word hi, hd, withdrawWord_eq hi]
  exact if_pos hc

/-- An operation whose `require` fails, or that finds a fault recorded, only leaves the port (60_exceptions R113, R116). -/
theorem step_notTaken {s : State} {w : Word} {rest : List Word} {i : Instr} (hc : configLegal s.config = true)
    (hi : s.input = w :: rest) (hd : decode w = .ok i)
    (h : s.faults ≠ [] ∨ opEnabled i { s with input := rest } = false) :
    step s = .next { s with input := rest, result := .notTaken } :=
  (step_operation hi hd).trans (exec_notTaken hc h)

theorem takeable_eq_false_iff (src : Source) (s : State) :
    takeable src s = false ↔ pending src s = false ∨ dispatchAllows src s = false :=
  Bool.and_eq_false_iff

/-- Settles O4: the decoder's first check by `decode_eq_reservedOpcode_iff`, and no operation's word fails it, since it
decodes. -/
theorem reservedOpcodeWords : Obligations.ReservedOpcodeWords := by
  refine ⟨fun w => (decode_eq_reservedOpcode_iff w).trans (hasReservedOpcode_iff w), fun i => ?_, rfl⟩
  have h := mt (hasReservedOpcode_iff (encode i)).2 (not_hasReservedOpcode_encode i)
  omega

/-- Settles O5: the decoder's second refusal by `decode_eq_nonzeroReservedField_iff`, with both checks as numbers. -/
theorem nonzeroReservedFieldWords : Obligations.NonzeroReservedFieldWords := by
  refine ⟨fun w => ?_, rfl⟩
  rw [decode_eq_nonzeroReservedField_iff, hasReservedOpcode_iff, hasNonzeroReservedField_iff]
  omega

/-- Settles O6: the three kinds by `decode_cases`, the refused step by `step_refusedWord`. -/
theorem everyWordIsOneOfThreeKinds : Obligations.EveryWordIsOneOfThreeKinds := by
  refine ⟨fun w => ?_, fun s w rest code hc hi hd => step_refusedWord hc hi hd⟩
  obtain ⟨-, hd⟩ | ⟨-, -, hd⟩ | ⟨-, -, hd⟩ := decode_cases w
  · exact .inr (.inl hd)
  · exact .inr (.inr hd)
  · exact .inl hd

/-- Settles O13: a malformed word by `step_refusedWord`; for a well-formed one, each operation's failed `require` is
`opEnabled = false`, so `step_notTaken` applies. -/
theorem decodingComesBeforeEnabling : Obligations.DecodingComesBeforeEnabling := by
  refine ⟨fun s w rest code hc hi hd => ⟨_, step_refusedWord hc hi hd, rfl, rfl⟩, ?_⟩
  intro s w rest i hc hi hd h
  refine step_notTaken hc hi hd (h.imp_right fun hreq => ?_)
  cases i with
  | takeTimer => exact (takeable_eq_false_iff .timer _).2 hreq
  | takeSample => exact (takeable_eq_false_iff .sample _).2 hreq
  | convDone v => exact hreq
  | reset | tmrClk | cntInc | cntDec | rdCounter | rdReading => exact hreq.elim

end Sys2Proof.Machine
end

section
/-! SUPPORT. The tick (41_display_multiplexer R59 to R66): what a completed TAKE_TIMER writes, in terms of the phase it
renders. -/

namespace Sys2Proof.Machine

/-! ### The fields of a tick -/

@[simp] theorem tick_seg (s : State) : (tick s).seg = phasePattern (renderedPhase s) s := by rw [tick_eq]
@[simp] theorem tick_en (s : State) : (tick s).en = selectLine (renderedPhase s) := by rw [tick_eq]
@[simp] theorem tick_phase (s : State) : (tick s).phase = storedPhase s := by rw [tick_eq]
@[simp] theorem tick_outh (s : State) : (tick s).outh =
    s.outh ++ [.en 0b000, .seg (phasePattern (renderedPhase s) s), .en (selectLine (renderedPhase s))] := by rw [tick_eq]
@[simp] theorem tick_result (s : State) : (tick s).result = s.result := by rw [tick_eq]

@[simp] theorem renderedPhase_accept (s : State) : renderedPhase (accept s) = renderedPhase s := rfl
@[simp] theorem storedPhase_accept (s : State) : storedPhase (accept s) = storedPhase s := rfl

/-! ### Phases and select lines -/

theorem phase_ne_three_iff : ∀ p : BitVec 2, p ≠ 3 ↔ p.toNat < 3 := by decide

theorem selectLine_exactlyOneLine {p : BitVec 2} (hp : p.toNat < 3) : ExactlyOneLine (selectLine p) := by
  unfold ExactlyOneLine
  revert p
  decide

theorem atMostOneLine_of_exactlyOneLine {en : BitVec 3} (h : ExactlyOneLine en) : AtMostOneLine en := .inr h

theorem renderedPhase_renderThenAdvance {s : State} (ho : s.config.tickOrder = .renderThenAdvance) :
    renderedPhase s = s.phase := by
  simp only [renderedPhase, ho]

theorem renderedPhase_advanceThenRender {s : State} (ho : s.config.tickOrder = .advanceThenRender) :
    renderedPhase s = nextPhase s.phase := by
  simp only [renderedPhase, ho]

theorem nextPhase_toNat (p : BitVec 2) : (nextPhase p).toNat = (p.toNat + 1) % 3 := by
  revert p
  decide

theorem nextPhase_ne_three (p : BitVec 2) : nextPhase p ≠ 3 := by
  revert p
  decide

theorem storedPhase_ne_three {s : State} (h : s.phase ≠ 3) : storedPhase s ≠ 3 := by
  rw [phase_ne_three_iff, storedPhase_toNat s h]
  exact Nat.mod_lt _ (by decide)

/-! ### The patterns -/

theorem lowNibble_toNat (v : Byte) : (lowNibble v).toNat = v.toNat % 16 := by
  simp [lowNibble, BitVec.extractLsb'_toNat]

theorem highNibble_toNat (v : Byte) : (highNibble v).toNat = v.toNat / 16 := by
  simp only [highNibble, BitVec.extractLsb'_toNat, Nat.shiftRight_eq_div_pow]
  omega

theorem encodeDigit_eq_of_getElem? {c : Config} {n : Nibble} {pat : Byte} (h : c.segTable[n.toNat]? = some pat) :
    encodeDigit c n = pat := by
  obtain ⟨_, hn⟩ := Vector.getElem?_eq_some_iff.1 h
  exact hn

theorem phasePattern_zero (s : State) : phasePattern 0 s = s.counter := rfl

theorem phasePattern_one {s : State} {pat : Byte} (h : s.config.segTable[s.reading.toNat % 16]? = some pat) :
    phasePattern 1 s = pat :=
  encodeDigit_eq_of_getElem? (n := lowNibble s.reading) (by rw [lowNibble_toNat, h])

theorem phasePattern_two {s : State} {pat : Byte} (h : s.config.segTable[s.reading.toNat / 16]? = some pat) :
    phasePattern 2 s = pat :=
  encodeDigit_eq_of_getElem? (n := highNibble s.reading) (by rw [highNibble_toNat, h])

/-! ### TAKE_TIMER in a ready state -/

/-- The tick of `s` renders phase `p`, which comes after phase `q`: under RENDER_THEN_ADVANCE it finds PHASE = p, under
ADVANCE_THEN_RENDER it finds PHASE = q (41_display_multiplexer R59). -/
def TickRenders (s : State) (q p : BitVec 2) : Prop :=
  (s.config.tickOrder = .renderThenAdvance ∧ s.phase = p) ∨ (s.config.tickOrder = .advanceThenRender ∧ s.phase = q)

theorem renderedPhase_of_tickRenders {s : State} {q p : BitVec 2} (hqp : nextPhase q = p) (h : TickRenders s q p) :
    renderedPhase s = p := by
  obtain ⟨ho, hp⟩ | ⟨ho, hq⟩ := h
  · rw [renderedPhase_renderThenAdvance ho, hp]
  · rw [renderedPhase_advanceThenRender ho, hq, hqp]

theorem storedPhase_of_tickRenders {s : State} {q p : BitVec 2} (hqp : nextPhase q = p) (h : TickRenders s q p) :
    storedPhase s = if s.config.tickOrder = .renderThenAdvance then nextPhase p else p := by
  have hr := renderedPhase_of_tickRenders hqp h
  obtain ⟨ho, -⟩ | ⟨ho, -⟩ := h <;> simp [storedPhase, ho, hr]

theorem phase_ne_three_of_tickRenders {s : State} {q p : BitVec 2} (hq : q ≠ 3) (hqp : nextPhase q = p)
    (h : TickRenders s q p) : s.phase ≠ 3 := by
  obtain ⟨-, e⟩ | ⟨-, e⟩ := h <;> rw [e]
  · exact hqp ▸ nextPhase_ne_three q
  · exact hq

/-- The whole effect of the tick that renders `p` with the pattern `pat`, and its frame. -/
theorem takeTimer_of_tickRenders {s : State} {q p : BitVec 2} {pat : Byte} (hq : q ≠ 3) (hqp : nextPhase q = p)
    (hready : Ready s) (htif : s.tif = true) (hallow : s.config.irqPriority = .sampleFirst → s.sif = false)
    (h : TickRenders s q p) (hpat : phasePattern p s = pat) :
    exec .takeTimer s = .next
      { s with
        tif := false
        seg := pat
        en := selectLine p
        phase := if s.config.tickOrder = .renderThenAdvance then nextPhase p else p
        tmr := s.config.reload
        outh := s.outh ++ [.en 0b000, .seg pat, .en (selectLine p)]
        result := .done } := by
  obtain ⟨hc, hf⟩ := hready
  have hpat' : phasePattern p (accept s) = pat := hpat
  rw [takeTimer_ticks hc hf ((takeable_timer_iff s).2 ⟨htif, hallow⟩) (phase_ne_three_of_tickRenders hq hqp h), tick_eq,
    renderedPhase_accept, storedPhase_accept, renderedPhase_of_tickRenders hqp h, storedPhase_of_tickRenders hqp h, hpat']
  rfl

/-- Settles O24: `takeTimer_of_tickRenders` at phase 0, whose pattern is COUNTER. -/
theorem tickRendersPhase0 : Obligations.TickRendersPhase0 := fun s hready htif hallow h =>
  takeTimer_of_tickRenders (q := 2) (p := 0) (by decide) rfl hready htif hallow h (phasePattern_zero s)

/-- Settles O25: `takeTimer_of_tickRenders` at phase 1, whose pattern is that of READING's low nibble. -/
theorem tickRendersPhase1 : Obligations.TickRendersPhase1 := fun _ hready htif hallow h _ hpat =>
  takeTimer_of_tickRenders (q := 0) (p := 1) (by decide) rfl hready htif hallow h (phasePattern_one hpat)

/-- Settles O26: `takeTimer_of_tickRenders` at phase 2, whose pattern is that of READING's high nibble. -/
theorem tickRendersPhase2 : Obligations.TickRendersPhase2 := fun _ hready htif hallow h _ hpat =>
  takeTimer_of_tickRenders (q := 1) (p := 2) (by decide) rfl hready htif hallow h (phasePattern_two hpat)

/-! ### A completed tick, from any state -/

theorem takeTimer_done_phase {s t : State} (h : exec .takeTimer s = .next t) (hd : t.result = .done) :
    s.phase.toNat < 3 ∧ t.phase.toNat = (s.phase.toNat + 1) % 3 := by
  obtain ⟨-, -, -, hp, rfl⟩ := takeTimer_done h hd
  exact ⟨(phase_ne_three_iff _).1 hp, by rw [tick_phase, storedPhase_accept, storedPhase_toNat s hp]⟩

theorem takeTimer_done_en {s t : State} (h : exec .takeTimer s = .next t) (hd : t.result = .done) :
    t.en = selectLine (renderedPhase s) := by
  obtain ⟨-, -, -, -, rfl⟩ := takeTimer_done h hd
  rw [tick_en, renderedPhase_accept]

/-- Settles O27: the events and registers of `tick`, where a legal phase renders a phase below 3. -/
theorem blankDriveSelect : Obligations.BlankDriveSelect := by
  intro s t h hd
  obtain ⟨-, -, -, hp, rfl⟩ := takeTimer_done h hd
  exact ⟨_, (renderedPhase s).toNat, renderedPhase_lt s hp, tick_outh _, tick_seg _, tick_en _⟩

end Sys2Proof.Machine
end

section
/-! SUPPORT. The display between two ticks (41_display_multiplexer R65, R70 to R72): an operation is RESET, completes a tick,
or leaves SEG, EN and PHASE alone. -/

namespace Sys2Proof.Machine

/-- From `s` to `t` the display registers are not written. -/
def KeepsDisplay (s t : State) : Prop := t.seg = s.seg ∧ t.en = s.en ∧ t.phase = s.phase

theorem KeepsDisplay.refl (s : State) : KeepsDisplay s s := ⟨rfl, rfl, rfl⟩

theorem KeepsDisplay.trans {s t u : State} (hst : KeepsDisplay s t) (htu : KeepsDisplay t u) : KeepsDisplay s u := by
  obtain ⟨hseg, hen, hphase⟩ := hst
  obtain ⟨hseg', hen', hphase'⟩ := htu
  exact ⟨hseg'.trans hseg, hen'.trans hen, hphase'.trans hphase⟩

/-- Everything an operation can do to the display. -/
theorem exec_display_cases {i : Instr} {s t : State} (h : exec i s = .next t) :
    (i = .reset ∧ t = resetBody (accept s)) ∨ (i = .takeTimer ∧ s.phase ≠ 3 ∧ t = tick (accept s)) ∨
      KeepsDisplay s t := by
  obtain ⟨-, ⟨rfl, -⟩ | ⟨-, -, rfl⟩⟩ := exec_cases h
  · exact .inr (.inr ⟨rfl, rfl, rfl⟩)
  cases i with
  | reset => exact .inl ⟨rfl, rfl⟩
  | takeTimer =>
    obtain ⟨-, e⟩ | ⟨hp, e⟩ := timerHandler_cases (accept s)
    · exact .inr (.inr (by rw [opEffect, e]; exact ⟨rfl, rfl, rfl⟩))
    · exact .inr (.inl ⟨rfl, hp, e⟩)
  | tmrClk =>
    refine .inr (.inr ?_)
    obtain ⟨-, e⟩ | ⟨-, e⟩ | ⟨-, e⟩ := timerClock_cases (accept s) <;> rw [opEffect, e] <;> exact ⟨rfl, rfl, rfl⟩
  | convDone v | takeSample | cntInc | cntDec | rdCounter | rdReading => exact .inr (.inr ⟨rfl, rfl, rfl⟩)

theorem resetBody_en (s : State) : (resetBody s).en = 0 := by
  obtain ⟨r, a, n, ⟨-, e⟩ | ⟨-, e⟩⟩ := resetBody_cases s <;> rw [e]

theorem resetBody_phase (s : State) : (resetBody s).phase = phaseResetValue s.config := by
  obtain ⟨r, a, n, ⟨-, e⟩ | ⟨-, e⟩⟩ := resetBody_cases s <;> rw [e]

/-- A completed RESET has run its body. -/
theorem reset_done {s t : State} (h : exec .reset s = .next t) (hd : t.result = .done) : t = resetBody (accept s) := by
  obtain ⟨-, ⟨rfl, -⟩ | ⟨-, -, e⟩⟩ := exec_cases h
  · simp at hd
  · exact e

theorem isTick_tick (s : State) : isTick s .takeTimer (tick (accept s)) = true := by
  simp [isTick]

/-- An operation that completes no tick is RESET or leaves the display alone. -/
theorem exec_display_of_not_isTick {i : Instr} {s t : State} (h : exec i s = .next t) (hn : isTick s i t = false) :
    (i = .reset ∧ t = resetBody (accept s)) ∨ KeepsDisplay s t := by
  obtain hr | ⟨rfl, -, rfl⟩ | hk := exec_display_cases h
  · exact .inl hr
  · rw [isTick_tick] at hn
    cases hn
  · exact .inr hk

/-- A property kept by every operation of the sequence whose step is not counted holds at its end when none is. -/
theorem execAll_keeps_of_countSteps_eq_zero {p : State → Instr → State → Bool} {P : State → Prop} {ops : List Instr}
    {s u : State} (keeps : ∀ i ∈ ops, ∀ s t, P s → exec i s = .next t → p s i t = false → P t) (hs : P s)
    (h : execAll ops s = .next u) (hn : countSteps p ops s = 0) : P u := by
  induction ops generalizing s with
  | nil => exact Host.Outcome.next.inj h ▸ hs
  | cons i ops ih =>
    obtain ⟨t, ht, hu⟩ := execAll_cons.1 h
    rw [countSteps_cons ht, Nat.add_eq_zero_iff, Bool.toNat_eq_zero] at hn
    obtain ⟨hi, hops⟩ := hn
    exact ih (fun j hj => keeps j (List.mem_cons_of_mem i hj)) (keeps i List.mem_cons_self s t hs ht hi) hu hops

/-- 41_display_multiplexer R72: the display holds along operations without RESET and without a tick. -/
theorem execAll_keepsDisplay {ops : List Instr} {s u : State} (hr : .reset ∉ ops) (h : execAll ops s = .next u)
    (hn : countSteps isTick ops s = 0) : KeepsDisplay s u := by
  refine execAll_keeps_of_countSteps_eq_zero (P := KeepsDisplay s) ?_ (KeepsDisplay.refl s) h hn
  intro i hi t v hst htv hnt
  obtain ⟨rfl, -⟩ | htv := exec_display_of_not_isTick htv hnt
  · exact absurd hi hr
  · exact hst.trans htv

/-- The display stays dark until a tick, through RESET too. -/
theorem execAll_dark {ops : List Instr} {s u : State} (hs : s.en = 0b000) (h : execAll ops s = .next u)
    (hn : countSteps isTick ops s = 0) : u.en = 0b000 := by
  refine execAll_keeps_of_countSteps_eq_zero (P := fun s => s.en = 0b000) ?_ hs h hn
  intro i _ s t hs hst hnt
  obtain ⟨-, rfl⟩ | ⟨-, hen, -⟩ := exec_display_of_not_isTick hst hnt
  · exact resetBody_en _
  · exact hen.trans hs

theorem execAll_config {ops : List Instr} {s u : State} (h : execAll ops s = .next u) : u.config = s.config :=
  execAll_keeps (P := fun t => t.config = s.config) (fun _ _ _ _ hs ht => (exec_config ht).trans hs) rfl h

/-- Settles O28: the step of a tick by `takeTimer_done_phase`, no other change by `exec_display_cases`, and progress by
`takeTimer_ticks`. -/
theorem phaseSequence : Obligations.PhaseSequence := by
  refine ⟨fun s t h hd => takeTimer_done_phase h hd, ?_, ?_⟩
  · intro i s t h hne
    obtain ⟨hi, -⟩ | ⟨hi, -, rfl⟩ | ⟨-, -, hphase⟩ := exec_display_cases h
    · exact .inl hi
    · exact .inr ⟨hi, by simp⟩
    · exact absurd hphase hne
  · rintro s ⟨hc, hf⟩ ht hp
    exact ⟨_, takeTimer_ticks hc hf ht ((phase_ne_three_iff _).2 hp), by simp⟩

/-- Settles O42: a tick selects the line of a legal phase; RESET leaves EN dark, and `execAll_dark` keeps it so. -/
theorem oneLineAfterEveryTick : Obligations.OneLineAfterEveryTick := by
  refine ⟨fun s t h hd => ?_, fun s t u ops h hd hu hn => ?_⟩
  · obtain ⟨-, -, -, hp, -⟩ := takeTimer_done h hd
    rw [takeTimer_done_en h hd]
    exact selectLine_exactlyOneLine (renderedPhase_lt s hp)
  · have ht : t.en = 0b000 := by rw [reset_done h hd]; exact resetBody_en _
    exact execAll_dark ht hu hn

/-! ### Three consecutive ticks -/

/-- The digit a tick that finds PHASE = `q` selects under the tick order `o` (41_display_multiplexer R59, R71). -/
def selectedDigit (o : TickOrder) (q : Nat) : Nat :=
  match o with
  | .renderThenAdvance => q
  | .advanceThenRender => (q + 1) % 3

theorem takeTimer_done_selects {s t : State} (h : exec .takeTimer s = .next t) (hd : t.result = .done) :
    t.en = 1#3 <<< selectedDigit s.config.tickOrder s.phase.toNat := by
  rw [takeTimer_done_en h hd]
  cases ho : s.config.tickOrder with
  | renderThenAdvance => rw [renderedPhase_renderThenAdvance ho]; rfl
  | advanceThenRender => rw [selectLine, renderedPhase_advanceThenRender ho, nextPhase_toNat]; rfl

/-- From one tick to the next, without RESET between them, PHASE moves on by one and the tick order stays. -/
theorem between_ticks {s t u : State} {ops : List Instr} (h : exec .takeTimer s = .next t) (hd : t.result = .done)
    (hr : .reset ∉ ops) (hu : execAll ops t = .next u) (hn : countSteps isTick ops t = 0) :
    u.phase.toNat = (s.phase.toNat + 1) % 3 ∧ u.config = s.config := by
  obtain ⟨-, -, hphase⟩ := execAll_keepsDisplay hr hu hn
  exact ⟨by rw [hphase, (takeTimer_done_phase h hd).2], (execAll_config hu).trans (exec_config h)⟩

/-- Three digits in cyclic order are the three digits. -/
theorem lines_perm {q : Nat} (hq : q < 3) (o : TickOrder) :
    List.Perm [1#3 <<< selectedDigit o q, 1#3 <<< selectedDigit o ((q + 1) % 3), 1#3 <<< selectedDigit o ((q + 2) % 3)]
      [0b001, 0b010, 0b100] := by
  cases o <;> interval_cases q <;> decide

/-- Settles O50: the phases of the three ticks are q, q + 1 and q + 2 mod 3 by `between_ticks`, and each tick selects the
digit of its own phase by `takeTimer_done_selects`. -/
theorem roundRobin : Obligations.RoundRobin := by
  intro s t₁ u₁ t₂ u₂ t₃ ops₁ ops₂ h₁ hd₁ hr₁ hu₁ hn₁ h₂ hd₂ hr₂ hu₂ hn₂ h₃ hd₃
  obtain ⟨hq, -⟩ := takeTimer_done_phase h₁ hd₁
  obtain ⟨hp₁, hc₁⟩ := between_ticks h₁ hd₁ hr₁ hu₁ hn₁
  obtain ⟨hp₂, hc₂⟩ := between_ticks h₂ hd₂ hr₂ hu₂ hn₂
  have hp₂' : u₂.phase.toNat = (s.phase.toNat + 2) % 3 := by omega
  rw [takeTimer_done_selects h₁ hd₁, takeTimer_done_selects h₂ hd₂, takeTimer_done_selects h₃ hd₃, hc₂, hc₁, hp₂', hp₁]
  generalize s.phase.toNat = q at hq
  refine ⟨fun ho => ?_, fun ho => ?_, lines_perm hq _⟩
  · rw [ho]
    exact ⟨rfl, rfl, rfl⟩
  · have h₂' : ((q + 1) % 3 + 1) % 3 = (q + 2) % 3 := by omega
    have h₃' : ((q + 2) % 3 + 1) % 3 = q := by omega
    rw [ho, selectedDigit, selectedDigit, selectedDigit, h₂', h₃']
    exact ⟨rfl, rfl, rfl⟩

end Sys2Proof.Machine
end

section
/-! SUPPORT. Runs of the block: the two invariants of Safety, kept operation by operation, lifted to the step and to every
run from power-on (10_state R33, 41_display_multiplexer R69). -/

namespace Sys2Proof.Machine

/-! ### What each operation keeps -/

theorem exec_phase_ne_three {i : Instr} {s t : State} (hs : s.phase ≠ 3) (h : exec i s = .next t) : t.phase ≠ 3 := by
  obtain ⟨-, rfl⟩ | ⟨-, -, rfl⟩ | ⟨-, -, hphase⟩ := exec_display_cases h
  · rw [resetBody_phase]
    exact phaseResetValue_ne_three _
  · rw [tick_phase]
    exact storedPhase_ne_three hs
  · rwa [hphase]

theorem exec_atMostOneLine {i : Instr} {s t : State} (hs : AtMostOneLine s.en) (h : exec i s = .next t) :
    AtMostOneLine t.en := by
  obtain ⟨-, rfl⟩ | ⟨-, hp, rfl⟩ | ⟨-, hen, -⟩ := exec_display_cases h
  · exact .inl (resetBody_en _)
  · rw [tick_en, renderedPhase_accept]
    exact atMostOneLine_of_exactlyOneLine (selectLine_exactlyOneLine (renderedPhase_lt s hp))
  · rwa [hen]

/-- The one fault is that of TAKE_TIMER in PHASE 3 (60_exceptions R112). -/
theorem exec_faults_of_phase_ne_three {i : Instr} {s t : State} (hs : s.phase ≠ 3) (h : exec i s = .next t) :
    t.faults = s.faults := by
  obtain ⟨-, ⟨rfl, -⟩ | ⟨-, -, rfl⟩⟩ := exec_cases h
  · rfl
  cases i with
  | reset => obtain ⟨r, a, n, ⟨-, e⟩ | ⟨-, e⟩⟩ := resetBody_cases (accept s) <;> rw [opEffect, e] <;> rfl
  | tmrClk => obtain ⟨-, e⟩ | ⟨-, e⟩ | ⟨-, e⟩ := timerClock_cases (accept s) <;> rw [opEffect, e] <;> rfl
  | takeTimer =>
    obtain ⟨hp, -⟩ | ⟨-, e⟩ := timerHandler_cases (accept s)
    · exact absurd hp hs
    · rw [opEffect, e, tick_eq]
      rfl
  | convDone v | takeSample | cntInc | cntDec | rdCounter | rdReading => rfl

/-- TMR stays within RELOAD and is 0 exactly while the timer is pending (43_timer R89, R93). -/
def TimerInvariant (s : State) : Prop := s.tmr ≤ s.config.reload ∧ (s.tmr = 0 ↔ s.tif = true)

theorem timerInvariant_of_reloaded {s : State} (hc : configLegal s.config = true) (htmr : s.tmr = s.config.reload)
    (htif : s.tif = false) : TimerInvariant s := by
  obtain ⟨-, hreload, -⟩ := (configLegal_iff _).1 hc
  refine ⟨htmr.le, ?_⟩
  rw [htmr, htif]
  exact ⟨fun h0 => by omega, fun h => by cases h⟩

theorem timerInvariant_timerClock {s : State} (hs : TimerInvariant s) : TimerInvariant (timerClock s) := by
  obtain ⟨hle, hz⟩ := hs
  obtain ⟨-, e⟩ | ⟨-, e⟩ | ⟨h2, e⟩ := timerClock_cases s <;> rw [e]
  · exact ⟨hle, hz⟩
  · exact ⟨Nat.zero_le _, iff_of_true rfl rfl⟩
  · have htif : ¬ s.tif = true := fun h => by have := hz.2 h; omega
    exact ⟨(Nat.sub_le _ _).trans hle, iff_of_false (show s.tmr - 1 ≠ 0 by omega) htif⟩

theorem exec_timerInvariant {i : Instr} {s t : State} (hs : TimerInvariant s) (h : exec i s = .next t) :
    TimerInvariant t := by
  obtain ⟨hc, ⟨rfl, -⟩ | ⟨-, -, rfl⟩⟩ := exec_cases h
  · exact hs
  cases i with
  | reset =>
    obtain ⟨r, a, n, ⟨-, e⟩ | ⟨-, e⟩⟩ := resetBody_cases (accept s) <;> rw [opEffect, e] <;>
      exact timerInvariant_of_reloaded hc rfl rfl
  | tmrClk => exact timerInvariant_timerClock (s := accept s) hs
  | takeTimer =>
    obtain ⟨-, e⟩ | ⟨-, e⟩ := timerHandler_cases (accept s) <;> rw [opEffect, e]
    · exact hs
    · rw [tick_eq]
      exact timerInvariant_of_reloaded hc rfl rfl
  | convDone v | takeSample | cntInc | cntDec | rdCounter | rdReading => exact hs

/-- A conversion is armed exactly while no result waits to be published (42_shared_state R82). -/
theorem exec_armedOrPending {i : Instr} {s t : State} (hs : s.cbusy = !s.sif) (h : exec i s = .next t) :
    t.cbusy = !t.sif := by
  obtain ⟨-, ⟨rfl, -⟩ | ⟨-, -, rfl⟩⟩ := exec_cases h
  · exact hs
  cases i with
  | reset => obtain ⟨r, a, n, ⟨-, e⟩ | ⟨-, e⟩⟩ := resetBody_cases (accept s) <;> rw [opEffect, e] <;> rfl
  | tmrClk => obtain ⟨-, e⟩ | ⟨-, e⟩ | ⟨-, e⟩ := timerClock_cases (accept s) <;> rw [opEffect, e] <;> exact hs
  | takeTimer =>
    obtain ⟨-, e⟩ | ⟨-, e⟩ := timerHandler_cases (accept s) <;> rw [opEffect, e]
    · exact hs
    · rw [tick_eq]
      exact hs
  | convDone v | takeSample => rfl
  | cntInc | cntDec | rdCounter | rdReading => exact hs

/-! ### The invariant of the reachable states -/

/-- The independent parts of `RunInvariant`: the implications of 10_state R33 on TIF, SIF and CBUSY follow from them. -/
theorem runInvariant_of {s : State} (hready : Ready s) (hphase : s.phase ≠ 3) (hen : AtMostOneLine s.en)
    (haux : s.config.auxMode = .continuous → s.aux = lowTwo s.counter) (htimer : TimerInvariant s)
    (harmed : s.cbusy = !s.sif) : RunInvariant s where
  ready := hready
  base :=
    { phaseLegal := hphase
      enLegal := hen
      auxFollows := haux
      tifAtZero := htimer.2.2
      sifUnarmed := fun h => by simp [harmed, h]
      armedNoSif := fun h => by simpa [harmed] using h }
  tmrBound := htimer.1
  zeroIsPending := htimer.2
  armedOrPending := harmed

/-- The invariant says nothing of the port, of REFUSED and of the last result. -/
theorem RunInvariant.withPort {s : State} (hs : RunInvariant s) (input : List Word) (refused : Bool)
    (result : StepResult) : RunInvariant { s with input := input, refused := refused, result := result } :=
  runInvariant_of hs.ready hs.base.phaseLegal hs.base.enLegal hs.base.auxFollows ⟨hs.tmrBound, hs.zeroIsPending⟩
    hs.armedOrPending

theorem exec_runInvariant {i : Instr} {s t : State} (hs : RunInvariant s) (h : exec i s = .next t) : RunInvariant t := by
  obtain ⟨⟨hc, hf⟩, hbase, htmr, hzero, harmed⟩ := hs
  have hconfig := exec_config h
  refine runInvariant_of ⟨hconfig ▸ hc, (exec_faults_of_phase_ne_three hbase.phaseLegal h).trans hf⟩
    (exec_phase_ne_three hbase.phaseLegal h) (exec_atMostOneLine hbase.enLegal h) (fun hm => ?_)
    (exec_timerInvariant ⟨htmr, hzero⟩ h) (exec_armedOrPending harmed h)
  rw [hconfig] at hm
  exact exec_aux_follows hm (hbase.auxFollows hm) h

theorem powerOn_runInvariant {c : Config} (hc : configLegal c = true) (r a : Byte) :
    RunInvariant (State.powerOn c r a) :=
  runInvariant_of ⟨hc, rfl⟩ (phaseResetValue_ne_three c) (.inl rfl) (fun _ => rfl)
    (timerInvariant_of_reloaded hc rfl rfl) rfl

/-- TMR fits in its TMR_W bits, since RELOAD does (00_scope R5). -/
theorem RunInvariant.tmr_lt {s : State} (hs : RunInvariant s) : s.tmr < 2 ^ s.config.tmrW := by
  obtain ⟨-, -, hreload, -⟩ := (configLegal_iff _).1 hs.ready.1
  have hle := hs.tmrBound
  have hpos := Nat.two_pow_pos s.config.tmrW
  omega

/-! ### The history of the outputs -/

/-- From `s` to `t` the outputs change by the events appended to OUTH, and each write of EN selects at most one line. -/
def EmitsLegally (s t : State) : Prop :=
  ∃ es, t.outh = s.outh ++ es ∧ pinsOf t = es.foldl applyEvent (pinsOf s) ∧ ∀ v, OutEvent.en v ∈ es → AtMostOneLine v

theorem emitsLegally_of_eq {s t : State} (houth : t.outh = s.outh) (hpins : pinsOf t = pinsOf s) : EmitsLegally s t :=
  ⟨[], by rw [houth, List.append_nil], hpins, by simp⟩

theorem writeCounter_emitsLegally (c : Byte) (s : State) : EmitsLegally s (writeCounter c s) := by
  obtain ⟨-, e⟩ | ⟨-, e⟩ := writeCounter_cases c s <;> rw [e]
  · exact ⟨[.aux (lowTwo c)], rfl, rfl, by simp⟩
  · exact emitsLegally_of_eq rfl rfl

theorem resetBody_emitsLegally (s : State) : EmitsLegally s (resetBody s) := by
  obtain ⟨r, a, n, ⟨-, e⟩ | ⟨-, e⟩⟩ := resetBody_cases s <;> rw [e]
  · exact ⟨[.en 0, .seg 0, .aux 0], rfl, rfl, by simp [AtMostOneLine]⟩
  · exact ⟨[.en 0, .seg 0], rfl, rfl, by simp [AtMostOneLine]⟩

theorem tick_emitsLegally {s : State} (hp : s.phase ≠ 3) : EmitsLegally s (tick s) := by
  have hline := atMostOneLine_of_exactlyOneLine (selectLine_exactlyOneLine (renderedPhase_lt s hp))
  refine ⟨_, tick_outh s, rfl, fun v hv => ?_⟩
  obtain rfl | rfl : v = 0 ∨ v = selectLine (renderedPhase s) := by simpa using hv
  · exact .inl rfl
  · exact hline

theorem exec_emitsLegally {i : Instr} {s t : State} (h : exec i s = .next t) : EmitsLegally s t := by
  obtain ⟨-, ⟨rfl, -⟩ | ⟨-, -, rfl⟩⟩ := exec_cases h
  · exact emitsLegally_of_eq rfl rfl
  cases i with
  | reset => exact resetBody_emitsLegally (accept s)
  | tmrClk =>
    obtain ⟨-, e⟩ | ⟨-, e⟩ | ⟨-, e⟩ := timerClock_cases (accept s) <;> rw [opEffect, e] <;>
      exact emitsLegally_of_eq rfl rfl
  | takeTimer =>
    obtain ⟨-, e⟩ | ⟨hp, e⟩ := timerHandler_cases (accept s) <;> rw [opEffect, e]
    · exact emitsLegally_of_eq rfl rfl
    · exact tick_emitsLegally hp
  | cntInc => exact writeCounter_emitsLegally _ (accept s)
  | cntDec => exact writeCounter_emitsLegally _ (accept s)
  | convDone v | takeSample | rdCounter | rdReading => exact emitsLegally_of_eq rfl rfl

/-- Events that write EN legally keep it legal at every instant. -/
theorem foldl_applyEvent_atMostOneLine {es : List OutEvent} {p : Pins} (hp : AtMostOneLine p.en)
    (hes : ∀ v, OutEvent.en v ∈ es → AtMostOneLine v) : AtMostOneLine (es.foldl applyEvent p).en := by
  induction es generalizing p with
  | nil => exact hp
  | cons e es ih =>
    refine ih ?_ fun v hv => hes v (List.mem_cons_of_mem e hv)
    cases e with
    | en v => exact hes v List.mem_cons_self
    | seg v | aux v => exact hp

theorem pinsAfter_append (h es : List OutEvent) : pinsAfter (h ++ es) = es.foldl applyEvent (pinsAfter h) :=
  List.foldl_append

theorem HistoryInvariant.emits {s t : State} (hs : HistoryInvariant s) (h : EmitsLegally s t) : HistoryInvariant t := by
  obtain ⟨instants, now⟩ := hs
  obtain ⟨es, houth, hpins, hes⟩ := h
  refine ⟨fun h hpre => ?_, by rw [houth, pinsAfter_append, now, hpins]⟩
  rw [houth] at hpre
  obtain hold | ⟨fs, rfl⟩ := List.prefix_or_prefix_of_prefix hpre (List.prefix_append s.outh es)
  · exact instants h hold
  · have hfs : fs <+: es := (List.prefix_append_right_inj s.outh).1 hpre
    rw [pinsAfter_append]
    exact foldl_applyEvent_atMostOneLine (instants _ (List.prefix_refl _)) fun v hv => hes v (hfs.subset hv)

theorem exec_historyInvariant {i : Instr} {s t : State} (hs : HistoryInvariant s) (h : exec i s = .next t) :
    HistoryInvariant t :=
  hs.emits (exec_emitsLegally h)

theorem HistoryInvariant.withPort {s : State} (hs : HistoryInvariant s) (input : List Word) (refused : Bool)
    (result : StepResult) : HistoryInvariant { s with input := input, refused := refused, result := result } :=
  hs.emits (emitsLegally_of_eq rfl rfl)

theorem powerOn_historyInvariant (c : Config) (r a : Byte) : HistoryInvariant (State.powerOn c r a) where
  instants := fun h hpre => by
    obtain rfl : h = [] := List.prefix_nil.1 hpre
    exact .inl rfl
  now := rfl

/-! ### From operations to steps and runs -/

/-- The one induction step over words: a property of the machine that does not depend on the port, REFUSED and the last
result, and that every operation keeps, is kept by every step. -/
theorem step_keeps {P : State → Prop}
    (port : ∀ (s : State) (input : List Word) (refused : Bool) (result : StepResult), P s →
      P { s with input := input, refused := refused, result := result })
    (op : ∀ (i : Instr) (s t : State), P s → exec i s = .next t → P t)
    {s t : State} (hs : P s) (h : step s = .next t) : P t := by
  obtain ⟨-, -, rfl⟩ | ⟨w, rest, i, -, -, hi⟩ | ⟨w, rest, code, -, -, -, rfl⟩ := step_cases h
  · exact hs
  · exact op i _ t (port s s.input.tail s.refused s.result hs) hi
  · exact port s s.input.tail true (.refusedWord code) hs

theorem runSteps_succ {k : Nat} {s u : State} :
    runSteps (k + 1) s = .next u ↔ ∃ t, step s = .next t ∧ runSteps k t = .next u := by
  rw [runSteps]
  cases h : step s with
  | next t => simp
  | fault r => cases r
  | refused r => simp

/-- A property that every step keeps holds at the end of every run. -/
theorem runSteps_keeps {P : State → Prop} (keeps : ∀ s t, P s → step s = .next t → P t) {k : Nat} {s u : State}
    (hs : P s) (h : runSteps k s = .next u) : P u := by
  induction k generalizing s with
  | zero => exact Host.Outcome.next.inj h ▸ hs
  | succ k ih =>
    obtain ⟨t, ht, hu⟩ := runSteps_succ.1 h
    exact ih (keeps s t hs ht) hu

theorem step_runInvariant {s t : State} (hs : RunInvariant s) (h : step s = .next t) : RunInvariant t :=
  step_keeps (fun _ input refused result hs => hs.withPort input refused result)
    (fun _ _ _ hs h => exec_runInvariant hs h) hs h

theorem step_historyInvariant {s t : State} (hs : HistoryInvariant s) (h : step s = .next t) : HistoryInvariant t :=
  step_keeps (fun _ input refused result hs => hs.withPort input refused result)
    (fun _ _ _ hs h => exec_historyInvariant hs h) hs h

theorem step_config {s t : State} (h : step s = .next t) : t.config = s.config :=
  step_keeps (P := fun t => t.config = s.config) (fun _ _ _ _ hs => hs) (fun _ _ _ hs h => (exec_config h).trans hs) rfl h

/-- Settles O39: both invariants hold at power-on and every step keeps them, so `runSteps_keeps` carries them, with the
configuration, to the end of the run. -/
theorem everyRunIsMutuallyExclusive : Obligations.EveryRunIsMutuallyExclusive := by
  intro c r a words k t hc h
  have hrun : RunInvariant t := runSteps_keeps (fun _ _ => step_runInvariant)
    ((powerOn_runInvariant hc r a).withPort words false .idle) h
  have hhist : HistoryInvariant t := runSteps_keeps (fun _ _ => step_historyInvariant)
    ((powerOn_historyInvariant c r a).withPort words false .idle) h
  have hconfig : t.config = c := runSteps_keeps (P := fun t => t.config = c) (fun _ _ hs h => (step_config h).trans hs) rfl h
  exact ⟨hhist.instants, hhist.now, hrun.base, hrun.ready.2, hconfig ▸ hrun.tmr_lt⟩

end Sys2Proof.Machine
end

section
/-! SUPPORT. The shared cells (42_shared_state R75 to R80, R85, R86): what each of their operations answers in a ready state,
who writes COUNTER and READING, and COUNTER along a sequence of operations. -/

namespace Sys2Proof.Machine

/-! ### Accepted or not, in a ready state -/

theorem exec_of_ready {i : Instr} {s : State} (hr : Ready s) (he : opEnabled i s = true) :
    exec i s = .next (opEffect i (accept s)) :=
  exec_accepts hr.1 hr.2 he

theorem exec_of_not_enabled {i : Instr} {s : State} (hr : Ready s) (he : opEnabled i s = false) :
    exec i s = .next { s with result := .notTaken } :=
  exec_notTaken hr.1 (.inr he)

theorem exec_rdCounter {s : State} (hr : Ready s) : exec .rdCounter s = .next { s with result := .returned s.counter } :=
  exec_of_ready hr rfl

theorem exec_rdReading {s : State} (hr : Ready s) : exec .rdReading s = .next { s with result := .returned s.reading } :=
  exec_of_ready hr rfl

theorem takeable_sample_eq_false_iff (s : State) :
    takeable .sample s = false ↔ s.sif = false ∨ (s.config.irqPriority = .timerFirst ∧ s.tif = true) := by
  rw [← Bool.not_eq_true, takeable_sample_iff]
  simp only [not_and_or, Classical.not_imp, Bool.not_eq_true, Bool.not_eq_false]

/-- Settles O18: CONV_DONE's `require` is CBUSY = 1, and its effect is `latchResult`. -/
theorem convDoneResult : Obligations.ConvDoneResult := fun _ v hr =>
  ⟨fun hb => exec_of_ready (i := .convDone v) hr hb, fun hb => exec_of_not_enabled (i := .convDone v) hr hb⟩

/-- Settles O19: TAKE_SAMPLE's `require` is `takeable .sample`, which the two premises decide, and its effect is
`sampleHandler`. -/
theorem takeSampleResult : Obligations.TakeSampleResult := fun s hr =>
  ⟨fun hsif hallow => exec_of_ready (i := .takeSample) hr ((takeable_sample_iff s).2 ⟨hsif, hallow⟩),
   fun hno => exec_of_not_enabled (i := .takeSample) hr ((takeable_sample_eq_false_iff s).2 hno)⟩

/-! ### The two presses -/

/-- What an operation other than RESET adds to COUNTER, modulo 256 (42_shared_state R77, R78). -/
def pressStep : Instr → Byte
  | .cntInc => 1
  | .cntDec => 255
  | _ => 0

theorem sub_one_eq_add (c : Byte) : c - 1 = c + 255 := by bv_omega

/-- An accepted press writes COUNTER plus its step, and AUX with it as the wiring says. -/
theorem opEffect_press {i : Instr} (hi : i = .cntInc ∨ i = .cntDec) (s : State) :
    opEffect i s = writeCounter (s.counter + pressStep i) s := by
  obtain rfl | rfl := hi
  · rfl
  · rw [opEffect, sub_one_eq_add, pressStep]

theorem exec_press {i : Instr} {s : State} (hi : i = .cntInc ∨ i = .cntDec) (hr : Ready s) :
    exec i s = .next (writeCounter (s.counter + pressStep i) (accept s)) := by
  have he : opEnabled i s = true := by obtain rfl | rfl := hi <;> rfl
  rw [exec_of_ready hr he, opEffect_press hi, accept_counter]

theorem byte_add_eq_ofNat (c d : Byte) : c + d = BitVec.ofNat 8 ((c.toNat + d.toNat) % 256) := by bv_omega

theorem lowTwo_add_eq_ofNat (c d : Byte) : lowTwo (c + d) = BitVec.ofNat 2 ((c.toNat + d.toNat) % 4) := by
  apply BitVec.eq_of_toNat_eq
  simp only [lowTwo, BitVec.extractLsb'_toNat, BitVec.toNat_add, BitVec.toNat_ofNat]
  omega

/-- The whole effect of a press, and its frame, under the two wirings of the auxiliary lines (10_state R21). -/
theorem exec_press_result {i : Instr} {s : State} (hi : i = .cntInc ∨ i = .cntDec) (hr : Ready s) :
    (s.config.auxMode = .continuous → exec i s = .next
      { s with
        counter := BitVec.ofNat 8 ((s.counter.toNat + (pressStep i).toNat) % 256)
        aux := BitVec.ofNat 2 ((s.counter.toNat + (pressStep i).toNat) % 4)
        outh := s.outh ++ [.aux (BitVec.ofNat 2 ((s.counter.toNat + (pressStep i).toNat) % 4))]
        result := .done }) ∧
    (s.config.auxMode = .busShared → exec i s = .next
      { s with counter := BitVec.ofNat 8 ((s.counter.toNat + (pressStep i).toNat) % 256), result := .done }) := by
  rw [exec_press hi hr, ← byte_add_eq_ofNat, ← lowTwo_add_eq_ofNat]
  exact ⟨fun hm => congrArg _ (driveAux_continuous _ _ hm), fun hm => congrArg _ (driveAux_busShared _ _ hm)⟩

/-- Settles O20: `exec_press_result` for the step 1. -/
theorem cntIncResult : Obligations.CntIncResult := fun _ hr => exec_press_result (.inl rfl) hr

/-! ### Who writes COUNTER and READING -/

theorem exec_counter_of_not_writesCounter {i : Instr} {s t : State} (hw : ¬ WritesCounter i) (h : exec i s = .next t) :
    t.counter = s.counter := by
  obtain ⟨-, ⟨rfl, -⟩ | ⟨-, -, rfl⟩⟩ := exec_cases h
  · rfl
  · exact (opEffect_aux_of_not_writesCounter hw (accept s)).1

theorem exec_reading_of_ne {i : Instr} {s t : State} (hi : i ≠ .takeSample) (hi' : i ≠ .reset)
    (h : exec i s = .next t) : t.reading = s.reading := by
  obtain ⟨-, ⟨rfl, -⟩ | ⟨-, -, rfl⟩⟩ := exec_cases h
  · rfl
  cases i with
  | reset => exact absurd rfl hi'
  | takeSample => exact absurd rfl hi
  | tmrClk => obtain ⟨-, e⟩ | ⟨-, e⟩ | ⟨-, e⟩ := timerClock_cases (accept s) <;> rw [opEffect, e] <;> rfl
  | takeTimer => obtain ⟨-, e⟩ | ⟨-, e⟩ := timerHandler_cases (accept s) <;> rw [opEffect, e] <;> rfl
  | convDone v | cntInc | cntDec | rdCounter | rdReading => rfl

/-- Settles O22: the read by `exec_rdCounter`, and only a writer of COUNTER changes it. -/
theorem rdCounterResult : Obligations.RdCounterResult := by
  refine ⟨fun s hr => exec_rdCounter hr, fun i s t h hinc hdec hreset => ?_⟩
  have hw : ¬ WritesCounter i := by simp [WritesCounter, hinc, hdec, hreset]
  exact exec_counter_of_not_writesCounter hw h

/-! ### What RD_READING returns -/

/-- READING stays along operations without TAKE_SAMPLE and RESET. -/
theorem execAll_reading {ops : List Instr} {s u : State} (hsample : .takeSample ∉ ops) (hreset : .reset ∉ ops)
    (h : execAll ops s = .next u) : u.reading = s.reading := by
  refine execAll_keeps (P := fun t => t.reading = s.reading) (fun i hi t v ht htv => ?_) rfl h
  have hi₁ : i ≠ .takeSample := fun e => hsample (e ▸ hi)
  have hi₂ : i ≠ .reset := fun e => hreset (e ▸ hi)
  exact (exec_reading_of_ne hi₁ hi₂ htv).trans ht

theorem execAll_runInvariant {ops : List Instr} {s u : State} (hs : RunInvariant s) (h : execAll ops s = .next u) :
    RunInvariant u :=
  execAll_keeps (fun _ _ _ _ hs h => exec_runInvariant hs h) hs h

/-- A completed TAKE_SAMPLE publishes ADRES, and the machine stays ready. -/
theorem takeSample_done {s t : State} (h : exec .takeSample s = .next t) (hd : t.result = .done) :
    Ready t ∧ t.reading = s.adres := by
  obtain ⟨hc, ⟨rfl, -⟩ | ⟨hf, -, rfl⟩⟩ := exec_cases h
  · simp at hd
  · exact ⟨⟨hc, hf⟩, rfl⟩

/-- Settles O23: the read by `exec_rdReading`, in a state that is ready and holds the named READING: after power-on by
`execAll_runInvariant` and `execAll_reading`, after TAKE_SAMPLE by `takeSample_done`. -/
theorem rdReadingResult : Obligations.RdReadingResult := by
  refine ⟨fun s hr => exec_rdReading hr, ?_, ?_, fun i s t h hi hi' => exec_reading_of_ne hi hi' h⟩
  · intro c r a ops t hc hsample hreset h
    have hready := (execAll_runInvariant (powerOn_runInvariant hc r a) h).ready
    have hreading : t.reading = c.readingReset.getD r := execAll_reading hsample hreset h
    rw [exec_rdReading hready, hreading]
    cases c.readingReset <;> rfl
  · intro s t h hd
    obtain ⟨hready, hreading⟩ := takeSample_done h hd
    rw [exec_rdReading hready, hreading]

/-! ### COUNTER along a sequence of operations -/

/-- Ups minus downs in a sequence of operations, modulo 256 (42_shared_state R86). -/
def netPresses (ops : List Instr) : Byte := BitVec.ofNat 8 (ops.count .cntInc) - BitVec.ofNat 8 (ops.count .cntDec)

theorem netPresses_nil : netPresses [] = 0 := rfl

theorem netPresses_cons (i : Instr) (ops : List Instr) : netPresses (i :: ops) = pressStep i + netPresses ops := by
  unfold netPresses
  cases i with
  | cntInc =>
    rw [List.count_cons_self, List.count_cons_of_ne (by decide), pressStep]
    bv_omega
  | cntDec =>
    rw [List.count_cons_self, List.count_cons_of_ne (by decide), pressStep]
    bv_omega
  | convDone v | reset | tmrClk | takeTimer | takeSample | rdCounter | rdReading => simp [pressStep]

theorem netPresses_replicate_cntInc (n : Nat) : netPresses (List.replicate n .cntInc) = BitVec.ofNat 8 n := by
  simp [netPresses, List.count_replicate]

theorem netPresses_replicate_cntDec (n : Nat) : netPresses (List.replicate n .cntDec) = - BitVec.ofNat 8 n := by
  simp [netPresses, List.count_replicate]

theorem exec_counter_of_ne_reset {i : Instr} {s t : State} (hr : Ready s) (hi : i ≠ .reset) (h : exec i s = .next t) :
    t.counter = s.counter + pressStep i := by
  have press (hp : i = .cntInc ∨ i = .cntDec) : t.counter = s.counter + pressStep i := by
    rw [exec_press hp hr] at h
    exact Host.Outcome.next.inj h ▸ rfl
  cases i with
  | cntInc => exact press (.inl rfl)
  | cntDec => exact press (.inr rfl)
  | reset => exact absurd rfl hi
  | convDone v | tmrClk | takeTimer | takeSample | rdCounter | rdReading =>
    exact (exec_counter_of_not_writesCounter (by simp [WritesCounter]) h).trans (add_zero _).symm

/-- Only TAKE_TIMER records a fault. -/
theorem exec_faults_of_ne_takeTimer {i : Instr} {s t : State} (hi : i ≠ .takeTimer) (h : exec i s = .next t) :
    t.faults = s.faults := by
  obtain ⟨-, ⟨rfl, -⟩ | ⟨-, -, rfl⟩⟩ := exec_cases h
  · rfl
  cases i with
  | takeTimer => exact absurd rfl hi
  | reset => obtain ⟨r, a, n, ⟨-, e⟩ | ⟨-, e⟩⟩ := resetBody_cases (accept s) <;> rw [opEffect, e] <;> rfl
  | tmrClk => obtain ⟨-, e⟩ | ⟨-, e⟩ | ⟨-, e⟩ := timerClock_cases (accept s) <;> rw [opEffect, e] <;> rfl
  | convDone v | takeSample | cntInc | cntDec | rdCounter | rdReading => rfl

/-- No operation of the sequence can fault from here: none is TAKE_TIMER, or PHASE is legal and stays so. -/
def CannotFault (ops : List Instr) (s : State) : Prop := .takeTimer ∉ ops ∨ s.phase ≠ 3

theorem CannotFault.step {i : Instr} {ops : List Instr} {s t : State} (hn : CannotFault (i :: ops) s) (hr : Ready s)
    (h : exec i s = .next t) : CannotFault ops t ∧ Ready t := by
  have hc : configLegal t.config = true := exec_config h ▸ hr.1
  obtain hi | hp := hn
  · obtain ⟨hi, hops⟩ := not_or.1 (mt List.mem_cons.2 hi)
    exact ⟨.inl hops, hc, (exec_faults_of_ne_takeTimer (Ne.symm hi) h).trans hr.2⟩
  · exact ⟨.inr (exec_phase_ne_three hp h), hc, (exec_faults_of_phase_ne_three hp h).trans hr.2⟩

/-- While nothing faults, every press counts and nothing else but RESET does. -/
theorem execAll_counter {ops : List Instr} {s u : State} (hr : Ready s) (hn : CannotFault ops s) (hreset : .reset ∉ ops)
    (h : execAll ops s = .next u) : u.counter = s.counter + netPresses ops := by
  induction ops generalizing s with
  | nil => rw [← Host.Outcome.next.inj h, netPresses_nil, add_zero]
  | cons i ops ih =>
    obtain ⟨t, ht, hu⟩ := execAll_cons.1 h
    obtain ⟨hi, hops⟩ := not_or.1 (mt List.mem_cons.2 hreset)
    obtain ⟨hn', hr'⟩ := hn.step hr ht
    rw [ih hr' hn' hops hu, exec_counter_of_ne_reset hr (Ne.symm hi) ht, netPresses_cons, BitVec.add_assoc]

/-- Presses of one kind from a ready state, PHASE 3 included: all of them count. -/
theorem execAll_replicate_counter {i : Instr} (hi : i = .cntInc ∨ i = .cntDec) {s : State} (hr : Ready s) (n : Nat) :
    ∃ t, execAll (List.replicate n i) s = .next t ∧ t.counter = s.counter + netPresses (List.replicate n i) := by
  obtain ⟨t, ht⟩ := execAll_total (List.replicate n i) hr.1
  have hne : ∀ j : Instr, j ≠ i → j ∉ List.replicate n i := fun j hj hm => hj (List.eq_of_mem_replicate hm)
  have htimer : .takeTimer ≠ i := by obtain rfl | rfl := hi <;> decide
  have hreset : .reset ≠ i := by obtain rfl | rfl := hi <;> decide
  exact ⟨t, ht, execAll_counter hr (.inl (hne _ htimer)) (hne _ hreset) ht⟩

/-- Settles O21: `exec_press_result` for the step 255; the pair by `execAll_counter`, its two steps adding up to 0. -/
theorem cntDecResult : Obligations.CntDecResult := by
  refine ⟨fun s hr => exec_press_result (.inr rfl) hr, fun s t u hr ht hu => ?_⟩
  have hpair : execAll [.cntInc, .cntDec] s = .next u := execAll_cons.2 ⟨t, ht, execAll_cons.2 ⟨u, hu, rfl⟩⟩
  have hnet : netPresses [.cntInc, .cntDec] = 0 := by decide
  rw [execAll_counter hr (.inl (by decide)) (by decide) hpair, hnet, add_zero]

theorem execAll_replicate_cntInc {s : State} (hr : Ready s) (n : Nat) :
    ∃ t, execAll (List.replicate n .cntInc) s = .next t ∧ t.counter.toNat = (s.counter.toNat + n) % 256 := by
  obtain ⟨t, ht, hc⟩ := execAll_replicate_counter (.inl rfl) hr n
  refine ⟨t, ht, ?_⟩
  rw [hc, netPresses_replicate_cntInc, BitVec.toNat_add, BitVec.toNat_ofNat]
  omega

theorem execAll_replicate_cntDec {s : State} (hr : Ready s) (n : Nat) :
    ∃ t, execAll (List.replicate n .cntDec) s = .next t ∧ (t.counter.toNat + n) % 256 = s.counter.toNat := by
  obtain ⟨t, ht, hc⟩ := execAll_replicate_counter (.inr rfl) hr n
  refine ⟨t, ht, ?_⟩
  have hlt := s.counter.isLt
  rw [hc, netPresses_replicate_cntDec, BitVec.toNat_add, BitVec.toNat_neg, BitVec.toNat_ofNat]
  omega

/-- Settles O44: n presses by `execAll_replicate_cntInc` and `execAll_replicate_cntDec`, 256 of them being a whole turn;
the wraps are one press from 0 and from 255. -/
theorem counterLaws : Obligations.CounterLaws := by
  intro s hr
  refine ⟨execAll_replicate_cntInc hr, execAll_replicate_cntDec hr, ?_, fun hc => ?_, fun hc => ?_⟩
  · obtain ⟨t, ht, hc⟩ := execAll_replicate_cntInc hr 256
    have hlt := s.counter.isLt
    exact ⟨t, ht, BitVec.eq_of_toNat_eq (by omega)⟩
  · refine ⟨_, exec_press (.inr rfl) hr, ?_⟩
    rw [hc]
    rfl
  · refine ⟨_, exec_press (.inl rfl) hr, ?_⟩
    rw [hc]
    rfl

theorem resetBody_counter (s : State) : (resetBody s).counter = 0 := by
  obtain ⟨r, a, n, ⟨-, e⟩ | ⟨-, e⟩⟩ := resetBody_cases s <;> rw [e]

/-- After a completed RESET the machine is ready and PHASE is legal, so no tick can fault (60_exceptions R113). -/
theorem reset_done_ready {s t : State} (h : exec .reset s = .next t) (hd : t.result = .done) :
    Ready t ∧ t.phase ≠ 3 := by
  obtain ⟨hc, ⟨rfl, -⟩ | ⟨hf, -, -⟩⟩ := exec_cases h
  · simp at hd
  · refine ⟨⟨exec_config h ▸ hc, (exec_faults_of_ne_takeTimer (by decide) h).trans hf⟩, ?_⟩
    rw [reset_done h hd, resetBody_phase]
    exact phaseResetValue_ne_three _

/-- Settles O45: one press by `exec_counter_of_ne_reset`, the other operations by `exec_counter_of_not_writesCounter`, and
the sequence after RESET, which leaves COUNTER 0 and cannot fault, by `execAll_counter`. -/
theorem pressesDecideCounter : Obligations.PressesDecideCounter := by
  refine ⟨fun s t hr h => exec_counter_of_ne_reset hr (by decide) h, fun s t hr h => ?_, fun i s t h hne => ?_, ?_⟩
  · rw [sub_one_eq_add]
    exact exec_counter_of_ne_reset hr (by decide) h
  · exact not_not.1 fun hw => hne (exec_counter_of_not_writesCounter hw h)
  · intro s t u ops h hd hreset hu
    obtain ⟨hr, hp⟩ := reset_done_ready h hd
    have hzero : t.counter = 0 := by rw [reset_done h hd]; exact resetBody_counter _
    rw [execAll_counter hr (.inr hp) hreset hu, hzero, zero_add, netPresses]

end Sys2Proof.Machine
end

section
/-! SUPPORT. The timer along sequences of operations (43_timer R88 to R93): what one operation does to TMR and TIF, and the two
sums that every sequence without RESET conserves. -/

namespace Sys2Proof.Machine

/-! ### What one operation does to the timer -/

/-- Settles O17: the three cases of `timerClock_cases`, in a ready state, where TMR_CLK is always enabled. -/
theorem timerClockResult : Obligations.TimerClockResult := by
  intro s hr
  rw [exec_of_ready (i := .tmrClk) hr rfl, opEffect]
  obtain ⟨h, e⟩ | ⟨h, e⟩ | ⟨h, e⟩ := timerClock_cases (accept s) <;> rw [accept_tmr] at h <;> rw [e]
  · exact ⟨fun _ => rfl, fun h1 => by omega, fun n hn => by omega⟩
  · exact ⟨fun h0 => by omega, fun _ => rfl, fun n hn => by omega⟩
  · exact ⟨fun h0 => by omega, fun h1 => by omega, fun n hn => by rw [accept_tmr, hn]; rfl⟩

@[simp] theorem tick_tmr (s : State) : (tick s).tmr = s.config.reload := by rw [tick_eq]
@[simp] theorem tick_tif (s : State) : (tick s).tif = false := by rw [tick_eq]

theorem resetBody_tmr (s : State) : (resetBody s).tmr = s.config.reload := by
  obtain ⟨r, a, n, ⟨-, e⟩ | ⟨-, e⟩⟩ := resetBody_cases s <;> rw [e]

theorem resetBody_tif (s : State) : (resetBody s).tif = false := by
  obtain ⟨r, a, n, ⟨-, e⟩ | ⟨-, e⟩⟩ := resetBody_cases s <;> rw [e]

/-- From `s` to `t` the timer is not written. -/
def KeepsTimer (s t : State) : Prop := t.tmr = s.tmr ∧ t.tif = s.tif

theorem isTick_eq_false_of_ne {i : Instr} (hi : i ≠ .takeTimer) (s t : State) : isTick s i t = false := by
  simp [isTick, hi]

/-- Everything an operation can do to the timer. -/
theorem exec_timer_cases {i : Instr} {s t : State} (h : exec i s = .next t) :
    (i = .reset ∧ t = resetBody (accept s)) ∨ (i = .takeTimer ∧ s.tif = true ∧ t = tick (accept s)) ∨
      (i = .tmrClk ∧ t = timerClock (accept s)) ∨
      (KeepsTimer s t ∧ isTick s i t = false ∧ (Ready s → i ≠ .tmrClk)) := by
  obtain ⟨-, ⟨rfl, hno⟩ | ⟨-, he, rfl⟩⟩ := exec_cases h
  · refine .inr (.inr (.inr ⟨⟨rfl, rfl⟩, by simp [isTick], fun hr hi => ?_⟩))
    obtain hf | hen := hno
    · exact hf hr.2
    · subst hi
      cases hen
  cases i with
  | reset => exact .inl ⟨rfl, rfl⟩
  | tmrClk => exact .inr (.inr (.inl ⟨rfl, rfl⟩))
  | takeTimer =>
    obtain ⟨-, e⟩ | ⟨-, e⟩ := timerHandler_cases (accept s)
    · refine .inr (.inr (.inr ?_))
      rw [opEffect, e]
      exact ⟨⟨rfl, rfl⟩, by simp [isTick], fun _ => by decide⟩
    · exact .inr (.inl ⟨rfl, ((takeable_timer_iff s).1 he).1, e⟩)
  | convDone v | takeSample | cntInc | cntDec | rdCounter | rdReading =>
    exact .inr (.inr (.inr ⟨⟨rfl, rfl⟩, isTick_eq_false_of_ne (by simp) _ _, fun _ => by simp⟩))

/-- 43_timer R89: nothing but the expiring clock sets TIF. -/
theorem exec_sets_tif {i : Instr} {s t : State} (h : exec i s = .next t) (hs : s.tif = false) (ht : t.tif = true) :
    i = .tmrClk ∧ s.tmr = 1 := by
  obtain ⟨-, rfl⟩ | ⟨-, -, rfl⟩ | ⟨hi, rfl⟩ | ⟨⟨-, htif⟩, -⟩ := exec_timer_cases h
  · simp [resetBody_tif] at ht
  · simp at ht
  · obtain ⟨-, e⟩ | ⟨h1, -⟩ | ⟨-, e⟩ := timerClock_cases (accept s)
    · simp [e, hs] at ht
    · exact ⟨hi, h1⟩
    · simp [e, hs] at ht
  · simp [htif, hs] at ht

/-- 43_timer R89: TMR is held at 0 until a tick or RESET reloads it. -/
theorem exec_holds_tmr_zero {i : Instr} {s t : State} (hi : i ≠ .reset) (h : exec i s = .next t)
    (hn : isTick s i t = false) (hs : s.tmr = 0) : t.tmr = 0 := by
  obtain ⟨hr, -⟩ | ⟨rfl, -, rfl⟩ | ⟨-, rfl⟩ | ⟨⟨htmr, -⟩, -⟩ := exec_timer_cases h
  · exact absurd hr hi
  · rw [isTick_tick] at hn
    cases hn
  · obtain ⟨-, e⟩ | ⟨-, e⟩ | ⟨h2, -⟩ := timerClock_cases (accept s)
    · rw [e, accept_tmr, hs]
    · rw [e]
    · rw [accept_tmr] at h2
      omega
  · rw [htmr, hs]

theorem execAll_holds_tmr_zero {ops : List Instr} {s u : State} (hs : s.tmr = 0) (hr : .reset ∉ ops)
    (hn : countSteps isTick ops s = 0) (h : execAll ops s = .next u) : u.tmr = 0 :=
  execAll_keeps_of_countSteps_eq_zero (P := fun s => s.tmr = 0)
    (fun _ hi _ _ hs ht hnt => exec_holds_tmr_zero (fun e => hr (e ▸ hi)) ht hnt hs) hs h hn

/-! ### The running timer -/

/-- The timer counts, and no tick can fault: what a completed tick or RESET establishes from whatever state it finds, and
every operation keeps. -/
structure TimerRuns (s : State) : Prop where
  ready : Ready s
  phaseLegal : s.phase ≠ 3
  timer : TimerInvariant s

theorem RunInvariant.timerRuns {s : State} (hs : RunInvariant s) : TimerRuns s :=
  ⟨hs.ready, hs.base.phaseLegal, hs.tmrBound, hs.zeroIsPending⟩

theorem exec_timerRuns {i : Instr} {s t : State} (hs : TimerRuns s) (h : exec i s = .next t) : TimerRuns t :=
  ⟨⟨exec_config h ▸ hs.ready.1, (exec_faults_of_phase_ne_three hs.phaseLegal h).trans hs.ready.2⟩,
    exec_phase_ne_three hs.phaseLegal h, exec_timerInvariant hs.timer h⟩

theorem execAll_timerRuns {ops : List Instr} {s u : State} (hs : TimerRuns s) (h : execAll ops s = .next u) :
    TimerRuns u :=
  execAll_keeps (fun _ _ _ _ hs h => exec_timerRuns hs h) hs h

theorem TimerRuns.tmr_eq_zero {s : State} (hs : TimerRuns s) (h : s.tif = true) : s.tmr = 0 := hs.timer.2.2 h

theorem TimerRuns.tif_eq_false {s : State} (hs : TimerRuns s) (h : s.tmr ≠ 0) : s.tif = false :=
  Bool.eq_false_iff.2 (mt hs.timer.2.2 h)

/-- 43_timer R88 on a running timer: a late clock, the expiring one, and one that counts down. -/
theorem TimerRuns.clock_cases {s : State} (hs : TimerRuns s) :
    (s.tmr = 0 ∧ s.tif = true ∧ timerClock (accept s) = accept s) ∨
    (s.tmr = 1 ∧ s.tif = false ∧ timerClock (accept s) = { accept s with tmr := 0, tif := true }) ∨
    (2 ≤ s.tmr ∧ s.tif = false ∧ timerClock (accept s) = { accept s with tmr := s.tmr - 1 }) := by
  obtain ⟨h0, e⟩ | ⟨h1, e⟩ | ⟨h2, e⟩ := timerClock_cases (accept s)
  · exact .inl ⟨h0, hs.timer.2.1 h0, e⟩
  · exact .inr (.inl ⟨h1, hs.tif_eq_false (h1.trans_ne one_ne_zero), e⟩)
  · exact .inr (.inr ⟨h2, hs.tif_eq_false (Nat.ne_zero_of_lt h2), e⟩)

/-- A reload: the timer runs, from its whole period. -/
structure Reloaded (s : State) : Prop where
  runs : TimerRuns s
  tmr : s.tmr = s.config.reload
  tif : s.tif = false

theorem takeTimer_done_reloaded {s t : State} (h : exec .takeTimer s = .next t) (hd : t.result = .done) :
    Reloaded t := by
  obtain ⟨hc, hf, -, hp, e⟩ := takeTimer_done h hd
  have hct : configLegal t.config = true := exec_config h ▸ hc
  have htmr : t.tmr = t.config.reload := by rw [exec_config h, e, tick_tmr, accept_config]
  have htif : t.tif = false := by rw [e, tick_tif]
  exact ⟨⟨⟨hct, (exec_faults_of_phase_ne_three hp h).trans hf⟩, exec_phase_ne_three hp h,
    timerInvariant_of_reloaded hct htmr htif⟩, htmr, htif⟩

theorem reset_done_reloaded {s t : State} (h : exec .reset s = .next t) (hd : t.result = .done) : Reloaded t := by
  obtain ⟨hr, hp⟩ := reset_done_ready h hd
  have e := reset_done h hd
  have htmr : t.tmr = t.config.reload := by rw [exec_config h, e, resetBody_tmr, accept_config]
  have htif : t.tif = false := by rw [e, resetBody_tif]
  exact ⟨⟨hr, hp, timerInvariant_of_reloaded hr.1 htmr htif⟩, htmr, htif⟩

/-! ### The two balances -/

/-- One operation on a running timer: a clock takes one from TMR unless it is late, and a tick puts RELOAD back. -/
theorem TimerRuns.exec_clock_balance {i : Instr} {s t : State} (hs : TimerRuns s) (hi : i ≠ .reset)
    (h : exec i s = .next t) :
    t.tmr + [i].count .tmrClk = s.tmr + (isLateClock s i t).toNat + (isTick s i t).toNat * s.config.reload := by
  obtain ⟨hr, -⟩ | ⟨rfl, htif, rfl⟩ | ⟨rfl, rfl⟩ | ⟨⟨htmr, -⟩, hn, hclk⟩ := exec_timer_cases h
  · exact absurd hr hi
  · simp [isTick_tick, isLateClock, hs.tmr_eq_zero htif]
  · rw [isTick_eq_false_of_ne (by decide)]
    obtain ⟨h0, htif, e⟩ | ⟨h1, htif, e⟩ | ⟨h2, htif, e⟩ := hs.clock_cases <;> rw [e]
    · simp [isLateClock, h0, htif]
    · simp [isLateClock, h1, htif]
    · simp [isLateClock, htif, Nat.sub_add_cancel (Nat.one_le_of_lt h2)]
  · simp [hn, htmr, isLateClock, hclk hs.ready]

/-- One operation on a running timer: an expiry sets TIF and a tick clears it. -/
theorem TimerRuns.exec_expiry_balance {i : Instr} {s t : State} (hs : TimerRuns s) (hi : i ≠ .reset)
    (h : exec i s = .next t) :
    (isTick s i t).toNat + t.tif.toNat = (isExpiry s i t).toNat + s.tif.toNat := by
  obtain ⟨hr, -⟩ | ⟨rfl, htif, rfl⟩ | ⟨rfl, rfl⟩ | ⟨⟨-, htif⟩, hn, hclk⟩ := exec_timer_cases h
  · exact absurd hr hi
  · simp [isTick_tick, isExpiry, htif]
  · rw [isTick_eq_false_of_ne (by decide)]
    obtain ⟨h0, htif, e⟩ | ⟨h1, htif, e⟩ | ⟨h2, htif, e⟩ := hs.clock_cases <;> rw [e]
    · simp [isExpiry, h0]
    · simp [isExpiry, h1, htif]
    · simp [isExpiry, Nat.ne_of_gt h2]
  · simp [hn, htif, isExpiry, hclk hs.ready]

/-- 43_timer R90 as a conservation law: along any operations but RESET, the clocks are what TMR lost, the late clocks, and
RELOAD for each tick. -/
theorem TimerRuns.execAll_clock_balance {ops : List Instr} {s u : State} (hs : TimerRuns s) (hr : .reset ∉ ops)
    (h : execAll ops s = .next u) :
    u.tmr + ops.count .tmrClk =
      s.tmr + countSteps isLateClock ops s + countSteps isTick ops s * s.config.reload := by
  induction ops generalizing s with
  | nil => simp [Host.Outcome.next.inj h, countSteps]
  | cons i ops ih =>
    obtain ⟨t, ht, hu⟩ := execAll_cons.1 h
    obtain ⟨hi, hops⟩ := not_or.1 (mt List.mem_cons.2 hr)
    have hstep := hs.exec_clock_balance (Ne.symm hi) ht
    have hrest := ih (exec_timerRuns hs ht) hops hu
    rw [exec_config ht] at hrest
    rw [← List.singleton_append, List.count_append, List.singleton_append, countSteps_cons ht, countSteps_cons ht,
      Nat.add_mul]
    omega

/-- 43_timer R93 as a conservation law: along any operations but RESET, each expiry has its tick or is still pending. -/
theorem TimerRuns.execAll_expiry_balance {ops : List Instr} {s u : State} (hs : TimerRuns s) (hr : .reset ∉ ops)
    (h : execAll ops s = .next u) :
    countSteps isTick ops s + u.tif.toNat = countSteps isExpiry ops s + s.tif.toNat := by
  induction ops generalizing s with
  | nil => simp [Host.Outcome.next.inj h, countSteps]
  | cons i ops ih =>
    obtain ⟨t, ht, hu⟩ := execAll_cons.1 h
    obtain ⟨hi, hops⟩ := not_or.1 (mt List.mem_cons.2 hr)
    have hstep := hs.exec_expiry_balance (Ne.symm hi) ht
    have hrest := ih (exec_timerRuns hs ht) hops hu
    rw [countSteps_cons ht, countSteps_cons ht]
    omega

/-- Settles O48: TIF is 1 when the second tick is taken, so TMR is 0 there, and `execAll_clock_balance` from the reload is
the claim. -/
theorem periodIsReloadPlusLatency : Obligations.PeriodIsReloadPlusLatency := by
  intro s t u v ops ht htd hr hu hn hv hvd
  have hre := takeTimer_done_reloaded ht htd
  obtain ⟨-, -, hpending, -⟩ := takeTimer_done hv hvd
  have hzero : u.tmr = 0 := (execAll_timerRuns hre.runs hu).tmr_eq_zero ((takeable_timer_iff u).1 hpending).1
  have hbalance := hre.runs.execAll_clock_balance hr hu
  rw [hzero, hn, hre.tmr] at hbalance
  omega

/-- Settles O49: `execAll_expiry_balance`; between two ticks TIF goes from 0 to 1, between two expiries from 1 to 0. -/
theorem oneTickPerExpiry : Obligations.OneTickPerExpiry := by
  refine ⟨fun s t ops hs hr h => hs.timerRuns.execAll_expiry_balance hr h, ?_, ?_⟩
  · intro s t u v ops _ hr ht htd hu hn hv hvd
    have hre := takeTimer_done_reloaded ht htd
    obtain ⟨-, -, hpending, -⟩ := takeTimer_done hv hvd
    have hbalance := hre.runs.execAll_expiry_balance hr hu
    rw [hn, hre.tif, ((takeable_timer_iff u).1 hpending).1] at hbalance
    simpa using hbalance.symm
  · intro s t u v ops hs hr ht hte hu hn hv hve
    have hrt := exec_timerRuns hs.timerRuns ht
    obtain ⟨-, htmr⟩ : s.tmr = 1 ∧ t.tmr = 0 := by simpa [isExpiry] using hte
    obtain ⟨humr, -⟩ : u.tmr = 1 ∧ v.tmr = 0 := by simpa [isExpiry] using hve
    have hbalance := hrt.execAll_expiry_balance hr hu
    rw [hn, hrt.timer.2.1 htmr, (execAll_timerRuns hrt hu).tif_eq_false (by omega)] at hbalance
    simpa using hbalance

/-! ### From a reload to the next expiry -/

theorem countSteps_append {p : State → Instr → State → Bool} {a b : List Instr} {s t : State}
    (h : execAll a s = .next t) : countSteps p (a ++ b) s = countSteps p a s + countSteps p b t := by
  induction a generalizing s with
  | nil => simp [Host.Outcome.next.inj h, countSteps]
  | cons i a ih =>
    obtain ⟨v, hv, ht⟩ := execAll_cons.1 h
    rw [List.cons_append, countSteps_cons hv, countSteps_cons hv, ih ht, Nat.add_assoc]

/-- No clock is late before the first expiry. -/
theorem TimerRuns.countSteps_isLateClock_eq_zero {ops : List Instr} {s u : State} (hs : TimerRuns s)
    (hr : .reset ∉ ops) (h : execAll ops s = .next u) (htif : s.tif = false)
    (hn : countSteps isExpiry ops s = 0) : countSteps isLateClock ops s = 0 := by
  induction ops generalizing s with
  | nil => rfl
  | cons i ops ih =>
    obtain ⟨t, ht, hu⟩ := execAll_cons.1 h
    obtain ⟨hi, hops⟩ := not_or.1 (mt List.mem_cons.2 hr)
    rw [countSteps_cons ht, Nat.add_eq_zero_iff] at hn
    obtain ⟨hexpiry, hrest⟩ := hn
    have hstep := hs.exec_expiry_balance (Ne.symm hi) ht
    rw [hexpiry, htif] at hstep
    have htif' : t.tif = false := Bool.toNat_eq_zero.1 (Nat.add_eq_zero_iff.1 hstep).2
    rw [countSteps_cons ht, ih (exec_timerRuns hs ht) hops hu htif' hrest]
    simp [isLateClock, htif]

/-- With fewer clocks than TMR holds, TMR counts them all, and there is neither an expiry nor a tick. -/
theorem TimerRuns.countdown {ops : List Instr} {s u : State} (hs : TimerRuns s) (hr : .reset ∉ ops)
    (h : execAll ops s = .next u) (hlt : ops.count .tmrClk < s.tmr) :
    u.tif = false ∧ u.tmr + ops.count .tmrClk = s.tmr ∧ countSteps isExpiry ops s = 0 ∧ countSteps isTick ops s = 0 := by
  have hu := execAll_timerRuns hs h
  have hclocks := hs.execAll_clock_balance hr h
  have hexpiries := hs.execAll_expiry_balance hr h
  have hbound : u.tmr ≤ s.config.reload := execAll_config h ▸ hu.timer.1
  have hticks : countSteps isTick ops s = 0 := by
    by_contra hne
    have := Nat.le_mul_of_pos_left s.config.reload (Nat.pos_of_ne_zero hne)
    omega
  have hsf : s.tif = false := hs.tif_eq_false (by omega)
  have huf : u.tif = false := hu.tif_eq_false (by omega)
  have hexpiry : countSteps isExpiry ops s = 0 := by
    rw [hticks, hsf, huf] at hexpiries
    exact hexpiries.symm
  have hlate := hs.countSteps_isLateClock_eq_zero hr h hsf hexpiry
  rw [hlate, hticks] at hclocks
  exact ⟨huf, by omega, hexpiry, hticks⟩

/-- The clock that brings the count up to what TMR held is the first expiry, and no tick comes before it. -/
theorem TimerRuns.expires {ops : List Instr} {s u : State} (hs : TimerRuns s) (hr : .reset ∉ ops)
    (h : execAll (ops ++ [.tmrClk]) s = .next u) (hcount : ops.count .tmrClk + 1 = s.tmr) :
    u.tif = true ∧ u.tmr = 0 ∧ countSteps isExpiry (ops ++ [.tmrClk]) s = 1 ∧
      countSteps isTick (ops ++ [.tmrClk]) s = 0 := by
  obtain ⟨t, ht, hu⟩ := execAll_append.1 h
  obtain ⟨-, htmr, hexpiry, hticks⟩ := hs.countdown hr ht (by omega)
  have hone : t.tmr = 1 := by omega
  have hclock := (timerClockResult t (execAll_timerRuns hs ht).ready).2.1 hone
  obtain ⟨v, hv, hvu⟩ := execAll_cons.1 hu
  obtain rfl := Host.Outcome.next.inj hvu
  obtain rfl := Host.Outcome.next.inj (hclock.symm.trans hv)
  refine ⟨rfl, rfl, ?_, ?_⟩
  · rw [countSteps_append ht, hexpiry, countSteps_cons hclock]
    simp [isExpiry, hone, countSteps]
  · rw [countSteps_append ht, hticks, countSteps_cons hclock]
    rfl

/-- Settles O46: the expiring clock by `timerClockResult`, nothing else by `exec_sets_tif`, the hold at 0 by
`execAll_holds_tmr_zero`; after a tick, which reloads, `countdown` and `expires`. -/
theorem expiryAfterReload : Obligations.ExpiryAfterReload := by
  refine ⟨fun s hr h1 => (timerClockResult s hr).2.1 h1, fun i s t h hs ht => exec_sets_tif h hs ht,
    fun s t ops hs hr hn h => execAll_holds_tmr_zero hs hr hn h, ?_, ?_⟩
  · intro s t u ops h hd hr hu hlt
    have hre := takeTimer_done_reloaded h hd
    rw [← hre.tmr] at hlt ⊢
    obtain ⟨htif, htmr, hexpiry, -⟩ := hre.runs.countdown hr hu hlt
    exact ⟨htif, htmr, hexpiry⟩
  · intro s t u ops h hd hr hu hcount
    have hre := takeTimer_done_reloaded h hd
    obtain ⟨htif, htmr, hexpiry, -⟩ := hre.runs.expires hr hu (hcount.trans hre.tmr.symm)
    exact ⟨htif, htmr, hexpiry⟩

/-- Settles O47: RESET reloads, and from there `countdown` and `expires`. -/
theorem firstExpiryAfterReset : Obligations.FirstExpiryAfterReset := by
  intro s t h hd
  have hre := reset_done_reloaded h hd
  refine ⟨hre.tmr, hre.tif, fun u ops hr hu hlt => ?_, fun u ops hr hu hcount => ?_⟩
  · obtain ⟨htif, -, -, hticks⟩ := hre.runs.countdown hr hu (hlt.trans_eq hre.tmr.symm)
    exact ⟨htif, hticks⟩
  · obtain ⟨htif, -, -, hticks⟩ := hre.runs.expires hr hu (hcount.trans hre.tmr.symm)
    exact ⟨htif, hticks⟩

end Sys2Proof.Machine
end

section
/-! SUPPORT. Refused words, words with no step, and the fault (60_exceptions R112 to R116): REFUSED is kept by every
operation, "not taken" is the answer to a failed `require` or a recorded fault only, and FAULTS changes in one case. -/

namespace Sys2Proof.Machine

/-! ### REFUSED and FAULTS against the good states -/

theorem not_good_of_refused {s : State} (h : s.refused = true) : ¬ Good s := fun ⟨_, hr⟩ =>
  Bool.false_ne_true (hr.symm.trans h)

theorem not_good_of_faults {s : State} (h : s.faults ≠ []) : ¬ Good s := fun ⟨hf, _⟩ => h hf

@[simp] theorem opEffect_refused (i : Instr) (s : State) : (opEffect i s).refused = s.refused := by
  cases i with
  | reset => obtain ⟨r, a, n, ⟨-, e⟩ | ⟨-, e⟩⟩ := resetBody_cases s <;> rw [opEffect, e]
  | tmrClk => obtain ⟨-, e⟩ | ⟨-, e⟩ | ⟨-, e⟩ := timerClock_cases s <;> rw [opEffect, e]
  | takeTimer =>
    obtain ⟨-, e⟩ | ⟨-, e⟩ := timerHandler_cases s <;> rw [opEffect, e]
    · rfl
    · rw [tick_eq]
  | convDone v | takeSample | cntInc | cntDec | rdCounter | rdReading => rfl

theorem exec_refused {i : Instr} {s t : State} (h : exec i s = .next t) : t.refused = s.refused := by
  obtain ⟨-, ⟨rfl, -⟩ | ⟨-, -, rfl⟩⟩ := exec_cases h
  · rfl
  · rw [opEffect_refused, accept_refused]

/-- 60_exceptions R115: no step clears REFUSED. -/
theorem step_keeps_refused {s t : State} (h : step s = .next t) (hs : s.refused = true) : t.refused = true := by
  obtain ⟨-, -, rfl⟩ | ⟨w, rest, i, -, -, hi⟩ | ⟨w, rest, code, -, -, -, rfl⟩ := step_cases h
  · exact hs
  · rw [exec_refused hi, withdrawWord_refused, hs]
  · rfl

/-- Settles O11: the refused step by `step_refusedWord`, which sets REFUSED and leaves the configuration and FAULTS; no
step clears REFUSED by `step_keeps_refused`; a refused configuration by `step_badConfig`. -/
theorem refusalSetsRefused : Obligations.RefusalSetsRefused :=
  ⟨fun _ _ _ _ hc hi hd => ⟨_, step_refusedWord hc hi hd, rfl, not_good_of_refused rfl, fun ⟨hc, hf⟩ => ⟨hc, hf⟩⟩,
    fun _ _ h hs => step_keeps_refused h hs, fun _ hc => step_badConfig hc⟩

/-! ### Words with no step -/

/-- An accepted operation gives its result, a value or a fault, and is never answered as not taken. -/
theorem opEffect_accept_result_ne_notTaken (i : Instr) (s : State) : (opEffect i (accept s)).result ≠ .notTaken := by
  cases i with
  | reset => obtain ⟨r, a, n, ⟨-, e⟩ | ⟨-, e⟩⟩ := resetBody_cases (accept s) <;> simp [opEffect, e]
  | tmrClk => obtain ⟨-, e⟩ | ⟨-, e⟩ | ⟨-, e⟩ := timerClock_cases (accept s) <;> simp [opEffect, e]
  | takeTimer => obtain ⟨-, e⟩ | ⟨-, e⟩ := timerHandler_cases (accept s) <;> simp [opEffect, e]
  | convDone v | takeSample | cntInc | cntDec | rdCounter | rdReading => nofun

/-- 60_exceptions R116: an operation has no step exactly when a fault is recorded or its `require` fails. -/
theorem exec_eq_notTaken_iff {i : Instr} {s : State} (hc : configLegal s.config = true) :
    exec i s = .next (notTaken s) ↔ s.faults ≠ [] ∨ opEnabled i s = false := by
  refine ⟨fun h => ?_, exec_notTaken hc⟩
  obtain ⟨-, ⟨-, hno⟩ | ⟨-, -, e⟩⟩ := exec_cases h
  · exact hno
  · have hres := congrArg State.result e
    exact absurd hres.symm (opEffect_accept_result_ne_notTaken i s)

theorem takeable_timer_eq_false_iff (s : State) :
    takeable .timer s = false ↔ s.tif = false ∨ (s.config.irqPriority = .sampleFirst ∧ s.sif = true) := by
  rw [← Bool.not_eq_true, takeable_timer_iff]
  simp only [not_and_or, Classical.not_imp, Bool.not_eq_true, Bool.not_eq_false]

/-- Settles O12: `exec_eq_notTaken_iff`, with the failed `require` of each operation written out. -/
theorem noStepCases : Obligations.NoStepCases := by
  intro i s hc
  refine (exec_eq_notTaken_iff hc).trans (or_congr_right ?_)
  cases i with
  | takeTimer => exact takeable_timer_eq_false_iff s
  | takeSample => exact takeable_sample_eq_false_iff s
  | convDone v => exact Iff.rfl
  | reset | tmrClk | cntInc | cntDec | rdCounter | rdReading => exact iff_false_intro nofun

/-! ### ILLEGAL_PHASE -/

theorem raiseFault_of_faults_nil {code : FaultCode} {s : State} (hf : s.faults = []) :
    raiseFault code s = { s with faults := [code], result := .faulted code } := by
  simp [raiseFault, addFault, hf]

/-- The whole effect of an allowed TAKE_TIMER in PHASE 3, and its frame (60_exceptions R113). -/
theorem takeTimer_faults {s : State} (hr : Ready s) (ht : takeable .timer s = true) (hp : s.phase = 3) :
    exec .takeTimer s = .next { s with faults := [.illegalPhase], result := .faulted .illegalPhase } := by
  obtain ⟨-, e⟩ | ⟨hn, -⟩ := timerHandler_cases (accept s)
  · rw [exec_of_ready (i := .takeTimer) hr ht, opEffect, e, raiseFault_of_faults_nil (s := accept s) hr.2]
    rfl
  · exact absurd hp hn

/-- FAULTS changes in one case only: an accepted TAKE_TIMER in PHASE 3. -/
theorem exec_faults_ne {i : Instr} {s t : State} (h : exec i s = .next t) (hne : t.faults ≠ s.faults) :
    i = .takeTimer ∧ Ready s ∧ takeable .timer s = true ∧ s.phase = 3 := by
  have hi : i = .takeTimer := by_contra fun hi => hne (exec_faults_of_ne_takeTimer hi h)
  have hp : s.phase = 3 := by_contra fun hp => hne (exec_faults_of_phase_ne_three hp h)
  subst hi
  obtain ⟨hc, ⟨rfl, -⟩ | ⟨hf, he, -⟩⟩ := exec_cases h
  · exact absurd rfl hne
  · exact ⟨rfl, ⟨hc, hf⟩, he, hp⟩

/-- Settles O14: the fault by `takeTimer_faults`, its sole raiser by `exec_faults_ne`, and nothing runs afterwards by
`exec_notTaken`. -/
theorem illegalPhaseFault : Obligations.IllegalPhaseFault := by
  refine ⟨fun s hr htif hallow hp => takeTimer_faults hr ((takeable_timer_iff s).2 ⟨htif, hallow⟩) hp, ?_,
    fun i s hc hf => ⟨exec_notTaken hc (.inl hf), not_good_of_faults hf⟩, rfl⟩
  intro i s t h hne
  obtain ⟨rfl, hr, ht, hp⟩ := exec_faults_ne h hne
  exact ⟨rfl, hp, Host.Outcome.next.inj (h.symm.trans (takeTimer_faults hr ht hp))⟩

end Sys2Proof.Machine
end

section
/-! SUPPORT. The dispatch of the two handlers (60_exceptions R104 to R111): when each completes, and what the order of the
two shows when both are pending. -/

namespace Sys2Proof.Machine

/-! ### Which handler completes -/

theorem dispatchAllows_timer_iff (s : State) :
    dispatchAllows .timer s = true ↔ s.config.irqPriority ≠ .sampleFirst ∨ s.sif = false := by
  simp [dispatchAllows]

theorem dispatchAllows_sample_iff (s : State) :
    dispatchAllows .sample s = true ↔ s.config.irqPriority ≠ .timerFirst ∨ s.tif = false := by
  simp [dispatchAllows]

theorem takeTimer_completes_iff {s : State} (hr : Ready s) (hp : s.phase ≠ 3) :
    (∃ t, exec .takeTimer s = .next t ∧ t.result = .done) ↔ takeable .timer s = true := by
  refine ⟨fun ⟨t, h, hd⟩ => ?_, fun ht => ⟨_, takeTimer_ticks hr.1 hr.2 ht hp, by simp⟩⟩
  obtain ⟨-, -, ht, -⟩ := takeTimer_done h hd
  exact ht

theorem takeSample_completes_iff {s : State} (hr : Ready s) :
    (∃ t, exec .takeSample s = .next t ∧ t.result = .done) ↔ takeable .sample s = true := by
  refine ⟨fun ⟨t, h, hd⟩ => ?_, fun ht => ⟨_, exec_of_ready (i := .takeSample) hr ht, rfl⟩⟩
  obtain ⟨-, ⟨rfl, -⟩ | ⟨-, ht, -⟩⟩ := exec_cases h
  · simp at hd
  · exact ht

/-- Settles O30: R106's rule by `dispatchAllows_timer_iff` and `dispatchAllows_sample_iff`; a handler of a ready state
completes exactly when it is takeable, which with both sources pending is a matter of the order alone. -/
theorem dispatchOrder : Obligations.DispatchOrder := by
  refine ⟨dispatchAllows_timer_iff, dispatchAllows_sample_iff, fun s hr hp htif hsif => ⟨?_, ?_⟩⟩
  · rw [takeTimer_completes_iff hr hp, takeable_timer_iff]
    simp [htif, hsif]
  · rw [takeSample_completes_iff hr, takeable_sample_iff]
    simp [htif, hsif]

/-! ### The two orders -/

@[simp] theorem tick_reading (s : State) : (tick s).reading = s.reading := by rw [tick_eq]
@[simp] theorem tick_adres (s : State) : (tick s).adres = s.adres := by rw [tick_eq]
@[simp] theorem tick_sif (s : State) : (tick s).sif = s.sif := by rw [tick_eq]
@[simp] theorem tick_faults (s : State) : (tick s).faults = s.faults := by rw [tick_eq]
@[simp] theorem tick_config (s : State) : (tick s).config = s.config := by rw [tick_eq]

theorem takeSample_publishes {s : State} (hr : Ready s) (ht : takeable .sample s = true) :
    exec .takeSample s = .next (sampleHandler (accept s)) :=
  exec_of_ready (i := .takeSample) hr ht

theorem ready_sampleHandler_accept {s : State} (hr : Ready s) : Ready (sampleHandler (accept s)) := hr

theorem ready_tick_accept {s : State} (hr : Ready s) : Ready (tick (accept s)) := by
  obtain ⟨hc, hf⟩ := hr
  exact ⟨by simpa using hc, by simpa using hf⟩

/-- TAKE_SAMPLE first: the tick finds the published READING. -/
theorem execAll_takeSample_takeTimer {s : State} (hr : Ready s) (ho : s.config.irqPriority = .unordered)
    (htif : s.tif = true) (hsif : s.sif = true) (hp : s.phase ≠ 3) :
    execAll [.takeSample, .takeTimer] s = .next (tick (accept (sampleHandler (accept s)))) := by
  have hsample : takeable .sample s = true := (takeable_sample_iff s).2 ⟨hsif, by simp [ho]⟩
  have htimer : takeable .timer (sampleHandler (accept s)) = true := (takeable_timer_iff _).2 ⟨htif, fun _ => rfl⟩
  obtain ⟨hc, hf⟩ := ready_sampleHandler_accept hr
  exact execAll_cons.2 ⟨_, takeSample_publishes hr hsample, execAll_cons.2 ⟨_, takeTimer_ticks hc hf htimer hp, rfl⟩⟩

/-- TAKE_TIMER first: the tick finds the old READING, and the result waits for its turn. -/
theorem execAll_takeTimer_takeSample {s : State} (hr : Ready s) (ho : s.config.irqPriority = .unordered)
    (htif : s.tif = true) (hsif : s.sif = true) (hp : s.phase ≠ 3) :
    execAll [.takeTimer, .takeSample] s = .next (sampleHandler (accept (tick (accept s)))) := by
  have htimer : takeable .timer s = true := (takeable_timer_iff s).2 ⟨htif, by simp [ho]⟩
  have hsample : takeable .sample (tick (accept s)) = true :=
    (takeable_sample_iff _).2 ⟨by simpa using hsif, fun _ => tick_tif _⟩
  exact execAll_cons.2 ⟨_, takeTimer_ticks hr.1 hr.2 htimer hp,
    execAll_cons.2 ⟨_, takeSample_publishes (ready_tick_accept hr) hsample, rfl⟩⟩

theorem tick_seg_of_renderedPhase {s : State} {p : BitVec 2} (h : renderedPhase s = p) :
    (tick s).seg = phasePattern p s := by
  rw [tick_seg, h]

/-- Settles O31: `execAll_takeSample_takeTimer` and `execAll_takeTimer_takeSample` name the two final states; the
sample handler changes neither the rendered phase nor SEG, so each tick shows the READING it finds. -/
theorem handlerOrderIsObservable : Obligations.HandlerOrderIsObservable := by
  intro s hr ho htif hsif _ hp
  have hshow {p : BitVec 2} (h : renderedPhase s = p) :
      (tick (accept (sampleHandler (accept s)))).seg = phasePattern p (sampleHandler s) ∧
        (sampleHandler (accept (tick (accept s)))).seg = phasePattern p s :=
    ⟨tick_seg_of_renderedPhase (s := accept (sampleHandler (accept s))) h, tick_seg_of_renderedPhase (s := accept s) h⟩
  exact ⟨_, _, execAll_takeSample_takeTimer hr ho htif hsif hp, execAll_takeTimer_takeSample hr ho htif hsif hp,
    tick_reading _, tick_adres _, hshow, hshow⟩

end Sys2Proof.Machine
end

section
/-! SUPPORT. RESET and the invariants of the state (70_reset_and_hazards R123, R124, R133): the whole effect of RESET in a
ready state, the state it leaves, and each line of 10_state R33 kept by every operation. -/

namespace Sys2Proof.Machine

/-! ### The effect of RESET -/

/-- RESET is enabled in every ready state, and its effect is its body. -/
theorem exec_reset {s : State} (hr : Ready s) : exec .reset s = .next (resetBody (accept s)) :=
  exec_of_ready hr rfl

/-- Settles O15: the body of RESET by `resetBody_cases`, under either wiring and with READING_RESET given or not; a faulted
state by `exec_notTaken`. -/
theorem resetResult : Obligations.ResetResult := by
  refine ⟨fun s hr => ?_, fun s hc hf => exec_notTaken hc (.inl hf)⟩
  obtain ⟨r, a, n, h⟩ := resetBody_cases (accept s)
  refine ⟨r, a, n, (exec_reset hr).trans (congrArg _ ?_)⟩
  obtain ⟨hm, e⟩ | ⟨hm, e⟩ := h <;> rw [accept_config] at hm <;> rw [e, hm]
  · cases hread : s.config.readingReset <;> simp [phaseResetValue, hread]
  · cases hread : s.config.readingReset <;> simp [phaseResetValue, hread]

/-- Settles O16: `resetBody_cases` writes every field of `State.powerOn` except the output history, FAULTS, REFUSED, AUX in
BUS_SHARED mode, and the model's own fields, which are the ones the statement sets. -/
theorem powerOnIsResetFromAnyState : Obligations.PowerOnIsResetFromAnyState := by
  refine ⟨fun s hr => ?_, fun _ _ _ => ⟨rfl, rfl, rfl, rfl⟩⟩
  obtain ⟨r, a, n, h⟩ := resetBody_cases (accept s)
  refine ⟨r, a, _, exec_reset hr, ?_⟩
  obtain ⟨-, e⟩ | ⟨-, e⟩ := h <;> rw [e] <;> rfl

/-! ### The invariants of 10_state R33 -/

/-- RESET arms the converter and drops a pending completion (70_reset_and_hazards R123). -/
theorem resetBody_armedOrPending (s : State) : (resetBody s).cbusy = !(resetBody s).sif := by
  obtain ⟨r, a, n, ⟨-, e⟩ | ⟨-, e⟩⟩ := resetBody_cases s <;> rw [e] <;> rfl

/-- A completed RESET establishes the run invariant from whatever state it finds. -/
theorem reset_done_runInvariant {s t : State} (h : exec .reset s = .next t) (hd : t.result = .done) :
    RunInvariant t := by
  obtain ⟨⟨hready, hphase, htimer⟩, -, -⟩ := reset_done_reloaded h hd
  have ht := reset_done h hd
  have hen : AtMostOneLine t.en := .inl (ht ▸ resetBody_en _)
  have haux (hm : t.config.auxMode = .continuous) : t.aux = lowTwo t.counter :=
    (exec_showsCounter (exec_config h ▸ hm) (.inr (.inr rfl)) h hd).1
  exact runInvariant_of hready hphase hen haux htimer (ht ▸ resetBody_armedOrPending _)

/-- Every operation either writes SIF and CBUSY, as opposites, or leaves both (42_shared_state R75, R76, R82). -/
theorem exec_converter_cases {i : Instr} {s t : State} (h : exec i s = .next t) :
    t.cbusy = (!t.sif) ∨ (t.sif = s.sif ∧ t.cbusy = s.cbusy) := by
  obtain ⟨-, ⟨rfl, -⟩ | ⟨-, -, rfl⟩⟩ := exec_cases h
  · exact .inr ⟨rfl, rfl⟩
  cases i with
  | reset => exact .inl (resetBody_armedOrPending _)
  | convDone v | takeSample => exact .inl rfl
  | tmrClk =>
    obtain ⟨-, e⟩ | ⟨-, e⟩ | ⟨-, e⟩ := timerClock_cases (accept s) <;> rw [opEffect, e] <;> exact .inr ⟨rfl, rfl⟩
  | takeTimer =>
    obtain ⟨-, e⟩ | ⟨-, e⟩ := timerHandler_cases (accept s) <;> rw [opEffect, e]
    · exact .inr ⟨rfl, rfl⟩
    · rw [tick_eq]
      exact .inr ⟨rfl, rfl⟩
  | cntInc | cntDec | rdCounter | rdReading => exact .inr ⟨rfl, rfl⟩

theorem exec_sifUnarmed {i : Instr} {s t : State} (hs : s.sif = true → s.cbusy = false) (h : exec i s = .next t)
    (ht : t.sif = true) : t.cbusy = false := by
  obtain hopp | ⟨hsif, hcbusy⟩ := exec_converter_cases h
  · rw [hopp, ht]
    rfl
  · rw [hcbusy, hs (hsif ▸ ht)]

/-- TIF is set by the clock that takes TMR to 0, and TMR stays there until TIF is cleared (43_timer R89). -/
theorem exec_tifAtZero {i : Instr} {s t : State} (hs : s.tif = true → s.tmr = 0) (h : exec i s = .next t)
    (ht : t.tif = true) : t.tmr = 0 := by
  obtain ⟨-, rfl⟩ | ⟨-, -, rfl⟩ | ⟨-, rfl⟩ | ⟨⟨htmr, htif⟩, -⟩ := exec_timer_cases h
  · simp [resetBody_tif] at ht
  · simp at ht
  · obtain ⟨h0, e⟩ | ⟨-, e⟩ | ⟨h2, e⟩ := timerClock_cases (accept s) <;> rw [e] at ht ⊢
    · exact h0
    · have h0 : s.tmr = 0 := hs ht
      rw [accept_tmr] at h2
      omega
  · rw [htmr, hs (htif ▸ ht)]

theorem exec_stateInvariant {i : Instr} {s t : State} (hs : StateInvariant s) (h : exec i s = .next t) :
    StateInvariant t := by
  have hsif := exec_sifUnarmed hs.sifUnarmed h
  exact
    { phaseLegal := exec_phase_ne_three hs.phaseLegal h
      enLegal := exec_atMostOneLine hs.enLegal h
      auxFollows := fun hm => by
        rw [exec_config h] at hm
        exact exec_aux_follows hm (hs.auxFollows hm) h
      tifAtZero := exec_tifAtZero hs.tifAtZero h
      sifUnarmed := hsif
      armedNoSif := fun hc => Bool.eq_false_iff.2 fun ht => Bool.false_ne_true ((hsif ht).symm.trans hc) }

/-- Settles O36: after RESET by `reset_done_runInvariant`, and kept by every operation by `exec_stateInvariant`. -/
theorem operationsKeepStateInvariant : Obligations.OperationsKeepStateInvariant :=
  ⟨fun _ _ h hd => (reset_done_runInvariant h hd).base, fun _ _ _ hs h => exec_stateInvariant hs h⟩

end Sys2Proof.Machine
end

section
/-! SUPPORT. Words and lines: the decoder and the encoder are inverse (30_encoding R50 to R55), the words of source lines
(R57), and the step on an operation word and on an empty port (00_scope R6). -/

namespace Sys2Proof

/-- Settles O2: `decode_encode`. -/
theorem decodeOfEncode : Obligations.DecodeOfEncode := decode_encode

theorem encode_of_decode {w : Word} {i : Instr} (h : decode w = .ok i) : encode i = w := by
  obtain ⟨-, hd⟩ | ⟨-, -, hd⟩ | ⟨-, -, j, hd, he⟩ := decode_cases w
  · rw [hd] at h
    cases h
  · rw [hd] at h
    cases h
  · obtain rfl : j = i := Except.ok.inj (hd.symm.trans h)
    exact he

/-- Settles O3: of the three answers in `decode_cases` only the third is an operation, and it is the word's own. -/
theorem encodeOfDecode : Obligations.EncodeOfDecode := fun _ _ h => encode_of_decode h

/-- Settles O1: each of the nine operation words is `encode` of its operation; the four others fail a check of R55. -/
theorem specWordsDecode : Obligations.SpecWordsDecode :=
  ⟨decode_encode .reset, decode_encode .tmrClk, decode_encode (.convDone 0xFF), decode_encode .takeTimer,
    decode_encode .takeSample, decode_encode .cntInc, decode_encode .cntDec, decode_encode .rdCounter,
    decode_encode .rdReading, rfl, rfl, rfl, rfl⟩

/-! ### Source lines -/

theorem encode_convDone_ofNat {v : Nat} (hv : v ≤ 255) :
    encode (.convDone (BitVec.ofNat 8 v)) = BitVec.ofNat 16 (0x3000 + v) := by
  apply BitVec.eq_of_toNat_eq
  rw [word_of_fields, opField_encode_convDone, rsvField_encode_convDone, immField_encode_convDone]
  simp only [BitVec.ofNat_eq_ofNat, BitVec.toNat_ofNat]
  omega

theorem assembleLine_of_not_wellFormed {l : Line} (h : l.wellFormed = false) : assembleLine l = none := by
  simp [assembleLine, lineInstr, h]

theorem assembleLine_convDone {v : Nat} (hv : v ≤ 255) (n : Nat) :
    assembleLine { mnemonic := .convDone, operand := some v, count := n } =
      some (List.replicate n (BitVec.ofNat 16 (0x3000 + v))) := by
  rw [← encode_convDone_ofNat hv]
  simp [assembleLine, lineInstr, Line.wellFormed, hv]

/-- R57: only CONV_DONE takes an operand. -/
theorem not_wellFormed_of_operand {m : Mnemonic} (hm : m ≠ .convDone) (v n : Nat) :
    Line.wellFormed { mnemonic := m, operand := some v, count := n } = false := by
  cases m with
  | convDone => exact absurd rfl hm
  | reset | tmrClk | takeTimer | takeSample | cntInc | cntDec | rdCounter | rdReading => rfl

/-- Settles O7: an operand in range by `assembleLine_convDone`; every other line is not well-formed. -/
theorem linesAssemble : Obligations.LinesAssemble := by
  refine ⟨fun v n => ?_, fun n => assembleLine_of_not_wellFormed rfl,
    fun m v n hm => assembleLine_of_not_wellFormed (not_wellFormed_of_operand hm v n)⟩
  split
  · exact assembleLine_convDone ‹_› n
  · exact assembleLine_of_not_wellFormed (decide_eq_false ‹_›)

end Sys2Proof

namespace Sys2Proof.Machine

/-! ### The step on an operation word and on an empty port -/

theorem tableWord_toNat (w : Word) : tableWord 16 w.toNat = w := by
  rw [tableWord, Nat.mod_eq_of_lt w.isLt, BitVec.ofNat_toNat, BitVec.setWidth_eq]

/-- Settles O8: `step_operation`; the word that `withFetchWord` places is the head of the port. -/
theorem stepRunsDecodedOperation : Obligations.StepRunsDecodedOperation := by
  refine ⟨fun s w rest i hi hd => step_operation hi hd, fun s w i hd => ?_⟩
  rw [State.withFetchWord, tableWord_toNat]
  exact step_operation (presentNext_input w s) hd

theorem waitForWord_legal {s : State} (hc : configLegal s.config = true) : waitForWord s = .next s := if_pos hc

/-- Settles O9: a step with an empty port waits, and waiting under a legal configuration changes nothing. -/
theorem emptyPortWaits : Obligations.EmptyPortWaits := fun _ hc hi => (step_empty hi).trans (waitForWord_legal hc)

end Sys2Proof.Machine
end

section
/-! SUPPORT. What every step and every run keeps: the two invariants and the configuration, and that no run stops. -/

namespace Sys2Proof.Machine

/-- Settles O37: every operation keeps the run invariant, and `step_keeps` lifts it to every word and to none. -/
theorem stepKeepsRunInvariant : Obligations.StepKeepsRunInvariant := fun _ _ => step_runInvariant

/-- Settles O38: every operation emits legally, so it keeps the history invariant, and `step_keeps` lifts it. -/
theorem stepKeepsHistoryInvariant : Obligations.StepKeepsHistoryInvariant := fun _ _ => step_historyInvariant

/-- Settles O34: `step_config`. -/
theorem configurationIsConstant : Obligations.ConfigurationIsConstant := fun _ _ => step_config

theorem configLegal_configDefault : configLegal configDefault = true := by decide

/-- Settles O35: both invariants at power-on under any legal configuration, and the default one is legal. -/
theorem powerOnMeetsInvariants : Obligations.PowerOnMeetsInvariants :=
  ⟨fun c r a hc => ⟨powerOn_runInvariant hc r a, powerOn_historyInvariant c r a⟩,
    powerOn_runInvariant configLegal_configDefault 0x00 0x00, powerOn_historyInvariant configDefault 0x00 0x00⟩

/-- With a legal configuration every step answers a next state, whatever is on the port. -/
theorem step_total {s : State} (hc : configLegal s.config = true) : ∃ t, step s = .next t := by
  cases hi : s.input with
  | nil => exact ⟨s, emptyPortWaits s hc hi⟩
  | cons w rest =>
    cases hd : decode w with
    | ok i =>
      rw [step_operation hi hd]
      exact exec_total i hc
    | error code => exact ⟨_, step_refusedWord hc hi hd⟩

theorem runSteps_total (k : Nat) {s : State} (hc : configLegal s.config = true) : ∃ u, runSteps k s = .next u := by
  induction k generalizing s with
  | zero => exact ⟨s, rfl⟩
  | succ k ih =>
    obtain ⟨t, ht⟩ := step_total hc
    obtain ⟨u, hu⟩ := ih (s := t) (step_config ht ▸ hc)
    exact ⟨u, runSteps_succ.2 ⟨t, ht, hu⟩⟩

/-- Settles O40: the run starts under a legal configuration, so `runSteps_total` applies. -/
theorem noRunStops : Obligations.NoRunStops := fun _ _ _ _ k hc => runSteps_total k hc

end Sys2Proof.Machine
end

section
/-! SUPPORT. The single-writer contract (10_state R13, R30): who writes the converter's cells and the pending flags, and
that the shared cells change by whole bytes (42_shared_state R81). -/

namespace Sys2Proof.Machine

/-- The operations that write ADRES, SIF or CBUSY (10_state R25 to R27, 70_reset_and_hazards R123). -/
def WritesConverter (i : Instr) : Prop := (∃ v, i = .convDone v) ∨ i = .takeSample ∨ i = .reset

/-- From `s` to `t` the converter's three cells are not written. -/
def KeepsConverter (s t : State) : Prop := t.adres = s.adres ∧ t.sif = s.sif ∧ t.cbusy = s.cbusy

theorem KeepsConverter.refl (s : State) : KeepsConverter s s := ⟨rfl, rfl, rfl⟩

theorem KeepsConverter.trans {s t u : State} (hst : KeepsConverter s t) (htu : KeepsConverter t u) :
    KeepsConverter s u := by
  obtain ⟨hadres, hsif, hcbusy⟩ := hst
  obtain ⟨hadres', hsif', hcbusy'⟩ := htu
  exact ⟨hadres'.trans hadres, hsif'.trans hsif, hcbusy'.trans hcbusy⟩

theorem opEffect_keepsConverter {i : Instr} (hi : ¬ WritesConverter i) (s : State) :
    KeepsConverter s (opEffect i s) := by
  cases i with
  | reset => exact absurd (.inr (.inr rfl)) hi
  | takeSample => exact absurd (.inr (.inl rfl)) hi
  | convDone v => exact absurd (.inl ⟨v, rfl⟩) hi
  | tmrClk =>
    obtain ⟨-, e⟩ | ⟨-, e⟩ | ⟨-, e⟩ := timerClock_cases s <;> rw [opEffect, e] <;> exact ⟨rfl, rfl, rfl⟩
  | takeTimer =>
    obtain ⟨-, e⟩ | ⟨-, e⟩ := timerHandler_cases s <;> rw [opEffect, e]
    · exact ⟨rfl, rfl, rfl⟩
    · exact ⟨tick_adres s, tick_sif s, by rw [tick_eq]⟩
  | cntInc | cntDec | rdCounter | rdReading => exact ⟨rfl, rfl, rfl⟩

theorem exec_keepsConverter {i : Instr} {s t : State} (hi : ¬ WritesConverter i) (h : exec i s = .next t) :
    KeepsConverter s t := by
  obtain ⟨-, ⟨rfl, -⟩ | ⟨-, -, rfl⟩⟩ := exec_cases h
  · exact ⟨rfl, rfl, rfl⟩
  · exact opEffect_keepsConverter hi (accept s)

/-- TAKE_SAMPLE reads ADRES and leaves it. -/
theorem takeSample_adres {s t : State} (h : exec .takeSample s = .next t) : t.adres = s.adres := by
  obtain ⟨-, ⟨rfl, -⟩ | ⟨-, -, rfl⟩⟩ := exec_cases h <;> rfl

/-- TAKE_SAMPLE is not enabled while no result waits (42_shared_state R76). -/
theorem opEnabled_takeSample_eq_false {s : State} (hs : s.sif = false) : opEnabled .takeSample s = false :=
  (takeable_sample_eq_false_iff s).2 (.inl hs)

/-- CONV_DONE and RESET alone write ADRES. -/
theorem writesAdres_of_ne {i : Instr} {s t : State} (h : exec i s = .next t) (hne : t.adres ≠ s.adres) :
    (∃ v, i = .convDone v) ∨ i = .reset := by
  by_cases hi : WritesConverter i
  · obtain hv | rfl | hr := hi
    · exact .inl hv
    · exact absurd (takeSample_adres h) hne
    · exact .inr hr
  · exact absurd (exec_keepsConverter hi h).1 hne

theorem writesDisplay_of_not_keepsDisplay {i : Instr} {s t : State} (h : exec i s = .next t)
    (hk : ¬ KeepsDisplay s t) : i = .takeTimer ∨ i = .reset := by
  obtain ⟨hi, -⟩ | ⟨hi, -⟩ | hk' := exec_display_cases h
  · exact .inr hi
  · exact .inl hi
  · exact absurd hk' hk

theorem writesTimer_of_not_keepsTimer {i : Instr} {s t : State} (h : exec i s = .next t) (hk : ¬ KeepsTimer s t) :
    i = .tmrClk ∨ i = .takeTimer ∨ i = .reset := by
  obtain ⟨hi, -⟩ | ⟨hi, -⟩ | ⟨hi, -⟩ | ⟨hk', -⟩ := exec_timer_cases h
  · exact .inr (.inr hi)
  · exact .inr (.inl hi)
  · exact .inl hi
  · exact absurd hk' hk

/-- AUX is written with COUNTER, and in AUX_MODE CONTINUOUS only (10_state R21). -/
theorem writesAux_of_ne {i : Instr} {s t : State} (h : exec i s = .next t) (hne : t.aux ≠ s.aux) :
    WritesCounter i ∧ s.config.auxMode = .continuous := by
  obtain ⟨hm, -⟩ | ⟨⟨hk, -⟩, -⟩ := exec_aux_cases h
  · refine ⟨by_contra fun hi => hne ?_, hm⟩
    obtain ⟨-, ⟨rfl, -⟩ | ⟨-, -, rfl⟩⟩ := exec_cases h
    · rfl
    · obtain ⟨-, hk, -⟩ := opEffect_aux_of_not_writesCounter hi (accept s)
      exact hk
  · exact absurd hk hne

/-- No operation reads or writes the port. -/
theorem exec_input {i : Instr} {s t : State} (h : exec i s = .next t) : t.input = s.input := by
  obtain ⟨-, ⟨rfl, -⟩ | ⟨-, -, rfl⟩⟩ := exec_cases h
  · rfl
  cases i with
  | reset => obtain ⟨r, a, n, ⟨-, e⟩ | ⟨-, e⟩⟩ := resetBody_cases (accept s) <;> rw [opEffect, e] <;> rfl
  | tmrClk => obtain ⟨-, e⟩ | ⟨-, e⟩ | ⟨-, e⟩ := timerClock_cases (accept s) <;> rw [opEffect, e] <;> rfl
  | takeTimer => obtain ⟨-, e⟩ | ⟨-, e⟩ := timerHandler_cases (accept s) <;> rw [opEffect, e] <;> rfl
  | convDone v | takeSample | cntInc | cntDec | rdCounter | rdReading => rfl

theorem exec_outh_prefix {i : Instr} {s t : State} (h : exec i s = .next t) : s.outh <+: t.outh := by
  obtain ⟨es, he, -⟩ := exec_emitsLegally h
  exact ⟨es, he.symm⟩

/-- Settles O32: one line per element of the state. An operation outside the element's row leaves it: COUNTER and AUX, the
display registers, the timer and the converter's cells each by the lemma of their group. -/
theorem singleWriter : Obligations.SingleWriter := by
  intro i s t h
  have hconverter (hk : ¬ KeepsConverter s t) : WritesConverter i := by_contra fun hi => hk (exec_keepsConverter hi h)
  exact
    ⟨fun hne => by_contra fun hi => hne (exec_counter_of_not_writesCounter hi h),
      fun hne => by_contra fun hi => hne (exec_reading_of_ne (not_or.1 hi).1 (not_or.1 hi).2 h),
      fun hne => writesDisplay_of_not_keepsDisplay h fun ⟨_, _, hphase⟩ => hne hphase,
      fun hne => writesDisplay_of_not_keepsDisplay h fun ⟨hseg, _, _⟩ => hne hseg,
      fun hne => writesDisplay_of_not_keepsDisplay h fun ⟨_, hen, _⟩ => hne hen,
      writesAux_of_ne h,
      fun hne => writesTimer_of_not_keepsTimer h fun ⟨htmr, _⟩ => hne htmr,
      fun hne => writesTimer_of_not_keepsTimer h fun ⟨_, htif⟩ => hne htif,
      writesAdres_of_ne h,
      fun hne => hconverter fun ⟨_, hsif, _⟩ => hne hsif,
      fun hne => hconverter fun ⟨_, _, hcbusy⟩ => hne hcbusy,
      fun hne => (exec_faults_ne h hne).1,
      exec_refused h, exec_input h, exec_config h, exec_outh_prefix h⟩

/-! ### Whole bytes -/

/-- An operation is all or nothing: a cell keeps its value, or holds what the whole effect puts there (20_memory R37). -/
theorem exec_all_or_nothing {α : Type} (cell : State → α) {i : Instr} {s t : State} (h : exec i s = .next t) :
    cell t = cell (notTaken s) ∨ cell t = cell (opEffect i (accept s)) := by
  obtain ⟨-, ⟨rfl, -⟩ | ⟨-, -, rfl⟩⟩ := exec_cases h
  · exact .inl rfl
  · exact .inr rfl

theorem rdCounter_returned {s t : State} {v : Byte} (h : exec .rdCounter s = .next t) (hv : t.result = .returned v) :
    v = s.counter := by
  obtain e | e := exec_all_or_nothing State.result h <;> rw [hv] at e
  · cases e
  · exact StepResult.returned.inj e

theorem rdReading_returned {s t : State} {v : Byte} (h : exec .rdReading s = .next t) (hv : t.result = .returned v) :
    v = s.reading := by
  obtain e | e := exec_all_or_nothing State.result h <;> rw [hv] at e
  · cases e
  · exact StepResult.returned.inj e

theorem exec_reading_whole {i : Instr} {s t : State} (h : exec i s = .next t) (hr : i ≠ .reset) :
    t.reading = s.reading ∨ (i = .takeSample ∧ t.reading = s.adres) := by
  by_cases hi : i = .takeSample
  · subst hi
    exact (exec_all_or_nothing State.reading h).imp_right fun e => ⟨rfl, e⟩
  · exact .inl (exec_reading_of_ne hi hr h)

theorem exec_counter_whole {i : Instr} {s t : State} (h : exec i s = .next t) (hr : i ≠ .reset) :
    t.counter = s.counter ∨ (i = .cntInc ∧ t.counter = s.counter + 1) ∨ (i = .cntDec ∧ t.counter = s.counter - 1) := by
  by_cases hi : WritesCounter i
  · obtain rfl | rfl | rfl := hi
    · exact (exec_all_or_nothing State.counter h).imp_right fun e => .inl ⟨rfl, e⟩
    · exact (exec_all_or_nothing State.counter h).imp_right fun e => .inr ⟨rfl, e⟩
    · exact absurd rfl hr
  · exact .inl (exec_counter_of_not_writesCounter hi h)

/-- Settles O33: the writers of READING, COUNTER and ADRES store a whole byte or nothing, and the reads return the cell. -/
theorem sharedCellsAreNeverTorn : Obligations.SharedCellsAreNeverTorn :=
  ⟨fun _ _ _ h hr => ⟨exec_reading_whole h hr, exec_counter_whole h hr⟩, fun _ _ _ h => exec_all_or_nothing State.adres h,
    fun _ _ _ h hv => rdCounter_returned h hv, fun _ _ _ h hv => rdReading_returned h hv⟩

end Sys2Proof.Machine
end

section
/-! SUPPORT. The value ADRES comes up with is never seen (10_state R25): two states that differ only in ADRES, and not even
there once a result waits, run in step. -/

namespace Sys2Proof.Machine

/-- `s` with the value `b` in ADRES. -/
def withAdres (b : Byte) (s : State) : State := { s with adres := b }

/-- `t` is `s` but for an ADRES that nothing may read yet; with SIF = 1 it is `s`. -/
def AgreesButAdres (s t : State) : Prop := ∃ b, t = withAdres b s ∧ (s.sif = true → b = s.adres)

theorem AgreesButAdres.refl (s : State) : AgreesButAdres s s := ⟨s.adres, rfl, fun _ => rfl⟩

/-- RESET draws a new ADRES, so it forgets the old one. -/
theorem resetBody_withAdres (b : Byte) (s : State) : resetBody (withAdres b s) = resetBody s := by
  cases hr : s.config.readingReset <;>
    simp [resetBody, resetReading, resetAdres, driveAux, driveSeg, driveEn, countDraw, drawnByte, withAdres, hr]

theorem timerClock_withAdres (b : Byte) (s : State) : timerClock (withAdres b s) = withAdres b (timerClock s) := by
  have htmr : (withAdres b s).tmr = s.tmr := rfl
  unfold timerClock
  rw [htmr]
  by_cases h : s.tmr = 0
  · rw [if_pos h, if_pos h]
  · rw [if_neg h, if_neg h]
    rfl

/-- The tick reads COUNTER and READING, and not ADRES. -/
theorem timerHandler_withAdres (b : Byte) (s : State) :
    timerHandler (withAdres b s) = withAdres b (timerHandler s) := by
  obtain ⟨hp, e⟩ | ⟨hp, e⟩ := timerHandler_cases s <;> rw [e]
  · exact if_pos hp
  · exact if_neg hp

/-- Operations other than RESET and the sample path carry ADRES along unseen. -/
theorem opEffect_withAdres {i : Instr} (hi : ¬ WritesConverter i) (b : Byte) (s : State) :
    opEffect i (withAdres b s) = withAdres b (opEffect i s) := by
  cases i with
  | reset => exact absurd (.inr (.inr rfl)) hi
  | takeSample => exact absurd (.inr (.inl rfl)) hi
  | convDone v => exact absurd (.inl ⟨v, rfl⟩) hi
  | tmrClk => exact timerClock_withAdres b s
  | takeTimer => exact timerHandler_withAdres b s
  | cntInc | cntDec | rdCounter | rdReading => rfl

theorem opEnabled_withAdres (i : Instr) (b : Byte) (s : State) : opEnabled i (withAdres b s) = opEnabled i s := by
  cases i <;> rfl

/-- With no result waiting, an accepted operation brings the two states on in step: TAKE_SAMPLE, the one reader of ADRES,
is not enabled; RESET and CONV_DONE write ADRES; the others leave it. -/
theorem opEffect_agreesButAdres {i : Instr} {s : State} (hsif : s.sif = false) (he : opEnabled i s = true) (b : Byte) :
    AgreesButAdres (opEffect i (accept s)) (opEffect i (withAdres b (accept s))) := by
  by_cases hi : WritesConverter i
  · obtain ⟨v, rfl⟩ | rfl | rfl := hi
    · exact .refl _
    · exact absurd he (Bool.eq_false_iff.1 (opEnabled_takeSample_eq_false hsif))
    · simp only [opEffect, resetBody_withAdres]
      exact .refl _
  · obtain ⟨-, hkeep, -⟩ := opEffect_keepsConverter hi (accept s)
    refine ⟨b, opEffect_withAdres hi b _, fun h => ?_⟩
    rw [hkeep, accept_sif, hsif] at h
    cases h

/-- The simulation, operation by operation. -/
theorem exec_agreesButAdres {i : Instr} {s t s' t' : State} (ha : AgreesButAdres s t) (hs : exec i s = .next s')
    (ht : exec i t = .next t') : AgreesButAdres s' t' := by
  obtain ⟨b, rfl, hb⟩ := ha
  by_cases hsif : s.sif = true
  · have hsame : withAdres b s = s := by rw [hb hsif]; rfl
    rw [hsame, hs] at ht
    exact Host.Outcome.next.inj ht ▸ .refl s'
  · obtain ⟨hc, ⟨rfl, hno⟩ | ⟨hf, he, rfl⟩⟩ := exec_cases hs
    · rw [← opEnabled_withAdres i b] at hno
      obtain rfl := Host.Outcome.next.inj ((exec_notTaken (s := withAdres b s) hc hno).symm.trans ht)
      exact ⟨b, rfl, hb⟩
    · have he' := he
      rw [← opEnabled_withAdres i b] at he'
      obtain rfl := Host.Outcome.next.inj ((exec_accepts (s := withAdres b s) hc hf he').symm.trans ht)
      exact opEffect_agreesButAdres (Bool.eq_false_iff.2 hsif) he b

/-- The simulation, step by step: the two ports present the same word. -/
theorem step_agreesButAdres {s t s' t' : State} (ha : AgreesButAdres s t) (hs : step s = .next s')
    (ht : step t = .next t') : AgreesButAdres s' t' := by
  obtain ⟨b, rfl, hb⟩ := ha
  cases hi : s.input with
  | nil =>
    rw [step_empty hi] at hs
    rw [step_empty (s := withAdres b s) hi] at ht
    obtain ⟨-, rfl⟩ := waitForWord_cases hs
    obtain ⟨-, rfl⟩ := waitForWord_cases ht
    exact ⟨b, rfl, hb⟩
  | cons w rest =>
    rw [step_word hi] at hs
    rw [step_word (s := withAdres b s) hi] at ht
    cases hd : decode w with
    | ok i =>
      rw [hd] at hs ht
      exact exec_agreesButAdres (s := withdrawWord s) ⟨b, rfl, hb⟩ hs ht
    | error code =>
      rw [hd] at hs ht
      obtain ⟨-, rfl⟩ := takeRefusal_cases hs
      obtain ⟨-, rfl⟩ := takeRefusal_cases ht
      exact ⟨b, rfl, hb⟩

theorem runSteps_agreesButAdres {k : Nat} {s t s' t' : State} (ha : AgreesButAdres s t) (hs : runSteps k s = .next s')
    (ht : runSteps k t = .next t') : AgreesButAdres s' t' := by
  induction k generalizing s t with
  | zero => exact Host.Outcome.next.inj hs ▸ Host.Outcome.next.inj ht ▸ ha
  | succ k ih =>
    obtain ⟨u, hsu, hu⟩ := runSteps_succ.1 hs
    obtain ⟨v, htv, hv⟩ := runSteps_succ.1 ht
    exact ih (step_agreesButAdres ha hsu htv) hu hv

/-- Settles O41: the two power-on states agree but for ADRES, with no result waiting, and `runSteps_agreesButAdres` carries
that along both runs. -/
theorem powerOnAdresIsNeverSeen : Obligations.PowerOnAdresIsNeverSeen := by
  intro c r a b words k t u _ ht hu
  have hstart : AgreesButAdres { State.powerOn c r a with input := words } { State.powerOn c r b with input := words } :=
    ⟨b, rfl, fun h => by cases h⟩
  obtain ⟨b', rfl, hb⟩ := runSteps_agreesButAdres hstart ht hu
  exact ⟨rfl, hb⟩

end Sys2Proof.Machine
end

section
/-! SUPPORT. The display's patterns (41_display_multiplexer R63, R64), and sequences of operations: the display after RESET
(70_reset_and_hazards R126) and between ticks (R72), a latched result and a stale one (42_shared_state R82, R84), and the
pseudo-operations (30_encoding R58). -/

namespace Sys2Proof.Machine

/-! ### Patterns -/

theorem encodeDigit_bit7 {c : Config} (hc : configLegal c = true) (n : Nibble) :
    (encodeDigit c n).getLsbD 7 = false := by
  obtain ⟨-, -, -, -, -, hbit⟩ := (configLegal_iff c).1 hc
  exact hbit n.toFin

/-- Only phase 0 shows a raw byte; the other two show a pattern of SEG_TABLE. -/
theorem phasePattern_bit7 {p : BitVec 2} {s : State} (hc : configLegal s.config = true) (hp : p ≠ 0) :
    (phasePattern p s).getLsbD 7 = false := by
  rw [phasePattern, if_neg hp]
  split
  · exact encodeDigit_bit7 hc _
  · exact encodeDigit_bit7 hc _

/-- Settles O29: the entries by `configLegal_iff`; a tick that does not select digit 0 renders phase 1 or 2. -/
theorem digitPatterns : Obligations.DigitPatterns := by
  refine ⟨fun c hc => ?_, fun s t h hd hen => ?_⟩
  · obtain ⟨-, -, -, h0, h5, -⟩ := (configLegal_iff c).1 hc
    exact ⟨h0, h5, encodeDigit_bit7 hc⟩
  · rw [takeTimer_done_en h hd] at hen
    obtain ⟨hc, -, -, -, rfl⟩ := takeTimer_done h hd
    rw [tick_seg]
    exact phasePattern_bit7 hc fun hp => hen (by rw [← renderedPhase_accept, hp]; rfl)

/-! ### The display after RESET and between ticks -/

/-- Settles O52: `execAll_keepsDisplay`. -/
theorem displayHoldsBetweenTicks : Obligations.DisplayHoldsBetweenTicks := fun _ _ _ hr h hn =>
  execAll_keepsDisplay hr h hn

theorem phaseResetValue_toNat (c : Config) : (phaseResetValue c).toNat = c.phaseReset.val := by
  rw [phaseResetValue, BitVec.toNat_ofNat]
  omega

/-- From a completed RESET to the first tick PHASE is PHASE_RESET. -/
theorem phase_before_first_tick {s t u : State} {ops : List Instr} (h : exec .reset s = .next t)
    (hd : t.result = .done) (hr : .reset ∉ ops) (hu : execAll ops t = .next u) (hn : countSteps isTick ops t = 0) :
    u.phase.toNat = s.config.phaseReset.val ∧ u.config = s.config := by
  obtain ⟨-, -, hphase⟩ := execAll_keepsDisplay hr hu hn
  refine ⟨?_, (execAll_config hu).trans (exec_config h)⟩
  rw [hphase, reset_done h hd, resetBody_phase, phaseResetValue_toNat, accept_config]

/-- Settles O51: dark as in O42; the three ticks are consecutive, so `roundRobin` gives their digits, in the order that
starts from PHASE_RESET. -/
theorem firstTicksAfterReset : Obligations.FirstTicksAfterReset := by
  intro s t₀ u₀ t₁ u₁ t₂ u₂ t₃ ops₀ ops₁ ops₂ h₀ hd₀ hr₀ hu₀ hn₀ h₁ hd₁ hr₁ hu₁ hn₁ h₂ hd₂ hr₂ hu₂ hn₂ h₃ hd₃
  have hdark (ops : List Instr) (u : State) (hu : execAll ops t₀ = .next u) (hn : countSteps isTick ops t₀ = 0) :
      u.en = 0b000 := oneLineAfterEveryTick.2 s t₀ u ops h₀ hd₀ hu hn
  obtain ⟨hphase, hconfig⟩ := phase_before_first_tick h₀ hd₀ hr₀ hu₀ hn₀
  obtain ⟨hrender, -, hperm⟩ :=
    roundRobin u₀ t₁ u₁ t₂ u₂ t₃ ops₁ ops₂ h₁ hd₁ hr₁ hu₁ hn₁ h₂ hd₂ hr₂ hu₂ hn₂ h₃ hd₃
  refine ⟨hdark [] t₀ rfl rfl, hdark ops₀ u₀ hu₀ hn₀, hperm, fun hp ho => ?_⟩
  rw [hconfig, hphase, hp] at hrender
  exact hrender ho

/-! ### Latched and stale results -/

/-- With no conversion armed nothing but RESET and TAKE_SAMPLE writes the converter's cells (42_shared_state R82). -/
theorem exec_keepsConverter_of_not_armed {i : Instr} {s t : State} (hs : s.cbusy = false) (hr : i ≠ .reset)
    (hsample : i ≠ .takeSample) (h : exec i s = .next t) : KeepsConverter s t := by
  by_cases hi : WritesConverter i
  · obtain ⟨v, rfl⟩ | hi | hi := hi
    · obtain ⟨-, ⟨rfl, -⟩ | ⟨-, he, -⟩⟩ := exec_cases h
      · exact ⟨rfl, rfl, rfl⟩
      · exact absurd he (Bool.eq_false_iff.1 hs)
    · exact absurd hi hsample
    · exact absurd hi hr
  · exact exec_keepsConverter hi h

/-- Settles O53: ADRES, SIF and CBUSY stay along the sequence by `exec_keepsConverter_of_not_armed`, and a completed
TAKE_SAMPLE publishes ADRES. -/
theorem latchedResultIsPublished : Obligations.LatchedResultIsPublished := by
  intro s t u ops hsif hcbusy hr hsample h hu
  have hkeep : KeepsConverter s t := by
    refine execAll_keeps (P := KeepsConverter s) (fun i hi v w hv hw => ?_) (KeepsConverter.refl s) h
    have ⟨_, _, hunarmed⟩ := hv
    exact hv.trans (exec_keepsConverter_of_not_armed (hunarmed.trans hcbusy) (fun e => hr (e ▸ hi))
      (fun e => hsample (e ▸ hi)) hw)
  obtain ⟨hadres, hsif', hcbusy'⟩ := hkeep
  exact ⟨hadres, hsif'.trans hsif, hcbusy'.trans hcbusy, fun hd => (takeSample_done hu hd).2.trans hadres⟩

/-- With no result waiting nothing but RESET changes READING, and nothing but RESET and CONV_DONE sets SIF. -/
theorem exec_keeps_stale {i : Instr} {s t : State} (hs : s.sif = false) (hr : i ≠ .reset) (hv : ∀ v, i ≠ .convDone v)
    (h : exec i s = .next t) : t.reading = s.reading ∧ t.sif = false := by
  by_cases hi : i = .takeSample
  · subst hi
    obtain ⟨-, ⟨rfl, -⟩ | ⟨-, he, -⟩⟩ := exec_cases h
    · exact ⟨rfl, hs⟩
    · exact absurd he (Bool.eq_false_iff.1 (opEnabled_takeSample_eq_false hs))
  · have hw : ¬ WritesConverter i := by simp [WritesConverter, hv, hi, hr]
    obtain ⟨-, hsif, -⟩ := exec_keepsConverter hw h
    exact ⟨exec_reading_of_ne hi hr h, hsif.trans hs⟩

/-- Settles O54: `exec_keeps_stale` along the sequence; with SIF = 0 the dispatch order allows a pending tick, and a tick
leaves READING. -/
theorem staleReading : Obligations.StaleReading := by
  intro s t ops hready hs hr hv h
  obtain ⟨hreading, hsif⟩ : t.reading = s.reading ∧ t.sif = false := by
    refine execAll_keeps (P := fun t => t.reading = s.reading ∧ t.sif = false) ?_ ⟨rfl, hs⟩ h
    rintro i hi v w ⟨hv₁, hv₂⟩ hw
    obtain ⟨hw₁, hw₂⟩ := exec_keeps_stale hv₂ (fun e => hr (e ▸ hi)) (fun x e => hv x (e ▸ hi)) hw
    exact ⟨hw₁.trans hv₁, hw₂⟩
  refine ⟨hreading, hsif, fun htif hp hf => ?_⟩
  have hc : configLegal t.config = true := execAll_config h ▸ hready.1
  exact ⟨_, takeTimer_ticks hc hf ((takeable_timer_iff t).2 ⟨htif, fun _ => hsif⟩) hp, by simp, by simpa using hreading⟩

/-! ### The pseudo-operations -/

/-- As many clocks as TMR holds run the countdown out. -/
theorem execAll_clocks {n : Nat} {s : State} (hr : Ready s) (h : s.tmr = n + 1) :
    execAll (List.replicate (n + 1) .tmrClk) s = .next { s with tmr := 0, tif := true, result := .done } := by
  induction n generalizing s with
  | zero => exact execAll_cons.2 ⟨_, (timerClockResult s hr).2.1 h, rfl⟩
  | succ n ih =>
    exact execAll_cons.2 ⟨_, (timerClockResult s hr).2.2 n h, ih (s := { s with tmr := n + 1, result := .done }) hr rfl⟩

theorem execAll_waitPeriod {s : State} (hr : Ready s) (h : s.tmr = s.config.reload) :
    execAll (waitPeriod s.config) s = .next { s with tmr := 0, tif := true, result := .done } := by
  obtain ⟨-, hreload, -⟩ := (configLegal_iff _).1 hr.1
  obtain ⟨n, hn⟩ := Nat.exists_eq_add_of_le' hreload
  rw [waitPeriod, hn]
  exact execAll_clocks hr (h.trans hn)

theorem countSteps_isTick_eq_zero {ops : List Instr} (h : .takeTimer ∉ ops) (s : State) :
    countSteps isTick ops s = 0 := by
  induction ops generalizing s with
  | nil => rfl
  | cons i ops ih =>
    obtain ⟨hi, hops⟩ := not_or.1 (mt List.mem_cons.2 h)
    rw [countSteps]
    cases exec i s with
    | next t => simp [isTick_eq_false_of_ne (Ne.symm hi), ih hops]
    | fault r | refused r => rfl

/-- Where R58 says PERIOD and CYCLE work: the timer at its reload, a legal phase, and the timer allowed by the dispatch
order. -/
structure PeriodStart (s : State) : Prop where
  ready : Ready s
  tmr : s.tmr = s.config.reload
  tif : s.tif = false
  phaseLegal : s.phase ≠ 3
  allowed : s.config.irqPriority = .sampleFirst → s.sif = false

/-- One PERIOD is the wait and then a tick, and it ends where the next one can start. -/
theorem PeriodStart.period {s : State} (hs : PeriodStart s) :
    ∃ t, execAll (onePeriod s.config) s = .next t ∧ PeriodStart t ∧ t.config = s.config ∧
      t.phase.toNat = (s.phase.toNat + 1) % 3 ∧ ExactlyOneLine t.en ∧
      countSteps isTick (onePeriod s.config) s = 1 := by
  obtain ⟨hr, htmr, -, hp, hallow⟩ := hs
  have hwait := execAll_waitPeriod hr htmr
  have hnone : .takeTimer ∉ waitPeriod s.config := fun hm => nomatch List.eq_of_mem_replicate hm
  set u : State := { s with tmr := 0, tif := true, result := .done }
  have htick : exec .takeTimer u = .next (tick (accept u)) :=
    takeTimer_ticks hr.1 hr.2 ((takeable_timer_iff u).2 ⟨rfl, hallow⟩) hp
  have hd : (tick (accept u)).result = .done := by simp
  obtain ⟨⟨hready', hphase', -⟩, htmr', htif'⟩ := takeTimer_done_reloaded htick hd
  have hconfig : (tick (accept u)).config = s.config := by simp [u]
  refine ⟨_, execAll_append.2 ⟨u, hwait, execAll_cons.2 ⟨_, htick, rfl⟩⟩,
    ⟨hready', htmr', htif', hphase', fun ho => ?_⟩, hconfig, (takeTimer_done_phase htick hd).2,
    oneLineAfterEveryTick.1 u _ htick hd, ?_⟩
  · rw [tick_sif]
    exact hallow (hconfig ▸ ho)
  · rw [onePeriod, countSteps_append hwait, countSteps_isTick_eq_zero hnone, countSteps_cons htick, isTick_tick]
    rfl

/-- One CYCLE is three periods, so PHASE comes round. -/
theorem PeriodStart.cycle {s : State} (hs : PeriodStart s) :
    ∃ t, execAll (fullCycle s.config) s = .next t ∧ PeriodStart t ∧ t.config = s.config ∧ t.phase = s.phase ∧
      countSteps isTick (fullCycle s.config) s = 3 := by
  obtain ⟨t₁, h₁, hs₁, hc₁, hp₁, -, hn₁⟩ := hs.period
  obtain ⟨t₂, h₂, hs₂, hc₂, hp₂, -, hn₂⟩ := hs₁.period
  obtain ⟨t₃, h₃, hs₃, hc₃, hp₃, -, hn₃⟩ := hs₂.period
  rw [hc₁] at h₂ hn₂ hc₂
  rw [hc₂] at h₃ hn₃ hc₃
  have h₁₂ := execAll_append.2 ⟨t₁, h₁, h₂⟩
  refine ⟨t₃, execAll_append.2 ⟨t₂, h₁₂, h₃⟩, hs₃, hc₃, BitVec.eq_of_toNat_eq ?_, ?_⟩
  · have hlt := (phase_ne_three_iff s.phase).1 hs.phaseLegal
    omega
  · rw [fullCycle, countSteps_append h₁₂, countSteps_append h₁, hn₁, hn₂, hn₃]

/-- SAMPLE v latches `v` and publishes it. -/
theorem execAll_samplePair {s : State} (v : Byte) (hr : Ready s) (hb : s.cbusy = true)
    (hallow : s.config.irqPriority = .timerFirst → s.tif = false) :
    execAll (samplePair v) s =
      .next { s with adres := v, reading := v, sif := false, cbusy := true, result := .done } := by
  have hlatch := (convDoneResult s v hr).1 hb
  have hpublish := (takeSampleResult { s with adres := v, cbusy := false, sif := true, result := .done } hr).1 rfl hallow
  exact execAll_cons.2 ⟨_, hlatch, execAll_cons.2 ⟨_, hpublish, rfl⟩⟩

/-- Settles O55: WAIT_PERIOD by `execAll_waitPeriod`, PERIOD and CYCLE by `PeriodStart.period` and `PeriodStart.cycle`,
SAMPLE v by `execAll_samplePair`. -/
theorem pseudoOperationsWork : Obligations.PseudoOperationsWork := by
  refine ⟨fun s hr htmr _ => execAll_waitPeriod hr htmr, fun s hr htmr htif hp hallow => ?_,
    fun s v hr hb hallow => execAll_samplePair v hr hb hallow⟩
  have hs : PeriodStart s := ⟨hr, htmr, htif, hp, hallow⟩
  obtain ⟨t, ht, hst, hct, hphase, hen, hn⟩ := hs.period
  obtain ⟨u, hu, hsu, hcu, hphase', hn'⟩ := hs.cycle
  exact ⟨⟨t, ht, hct ▸ hst.tmr, hst.tif, hphase, hen, hn⟩, u, hu, hcu ▸ hsu.tmr, hsu.tif, hphase', hn'⟩

end Sys2Proof.Machine
end

section
/-! SUPPORT. Liveness (44_host_contract R103): on a fair endless run without RESET the timer expires again and again, each
expiry has its tick, and the ticks go round the three digits. -/

namespace Sys2Proof.Machine

/-- The runs of the liveness statement. -/
structure FairRun (ops : Nat → Instr) (st : Nat → State) : Prop where
  start : RunInvariant (st 0)
  run : EndlessRun ops st
  noReset : ∀ n, ops n ≠ .reset
  clocks : FairTimebase ops
  dispatch : FairDispatch ops st
  priority : (st 0).config.irqPriority ≠ .sampleFirst

/-- Step `m` of the run is a tick. -/
def TicksAt (ops : Nat → Instr) (st : Nat → State) (m : Nat) : Prop := isTick (st m) (ops m) (st (m + 1)) = true

section
variable {ops : Nat → Instr} {st : Nat → State}

theorem ticksAt_iff (m : Nat) : TicksAt ops st m ↔ ops m = .takeTimer ∧ (st (m + 1)).result = .done := by
  simp [TicksAt, isTick]

theorem FairRun.runInvariant (hf : FairRun ops st) (n : Nat) : RunInvariant (st n) := by
  induction n with
  | zero => exact hf.start
  | succ n ih => exact exec_runInvariant ih (hf.run n)

theorem FairRun.config (hf : FairRun ops st) (n : Nat) : (st n).config = (st 0).config := by
  induction n with
  | zero => rfl
  | succ n ih => exact (exec_config (hf.run n)).trans ih

/-- Without SAMPLE_FIRST a pending timer may be taken (60_exceptions R106). -/
theorem FairRun.takeable_of_tif (hf : FairRun ops st) {n : Nat} (htif : (st n).tif = true) :
    takeable .timer (st n) = true :=
  (takeable_timer_iff _).2 ⟨htif, fun ho => absurd (hf.config n ▸ ho) hf.priority⟩

/-! ### The timer expires -/

/-- While the timer is not pending TMR counts the clocks down. -/
theorem FairRun.tmr_step (hf : FairRun ops st) {m : Nat} (htif : (st m).tif = false) :
    (st (m + 1)).tmr + [ops m].count .tmrClk = (st m).tmr := by
  have hbalance := (hf.runInvariant m).timerRuns.exec_clock_balance (hf.noReset m) (hf.run m)
  have hlate : isLateClock (st m) (ops m) (st (m + 1)) = false := by simp [isLateClock, htif]
  have htick : isTick (st m) (ops m) (st (m + 1)) = false := by
    refine Bool.eq_false_iff.2 fun h => ?_
    obtain ⟨hi, hd⟩ := (ticksAt_iff m).1 h
    have hrun := hf.run m
    rw [hi] at hrun
    obtain ⟨-, -, ht, -⟩ := takeTimer_done hrun hd
    exact absurd ((takeable_timer_iff _).1 ht).1 (Bool.eq_false_iff.1 htif)
  simpa [hlate, htick] using hbalance

theorem FairRun.tmr_antitone (hf : FairRun ops st) {n : Nat} (hno : ∀ m, n ≤ m → (st m).tif = false) {m : Nat}
    (hm : n ≤ m) : (st m).tmr ≤ (st n).tmr := by
  induction m, hm using Nat.le_induction with
  | base => exact le_rfl
  | succ m hm ih =>
    have hstep := hf.tmr_step (hno m hm)
    omega

/-- 44_host_contract R103 (a): clocks that keep coming expire the timer. Otherwise each of them would take one from TMR
for ever. -/
theorem FairRun.eventually_tif (hf : FairRun ops st) (n : Nat) : ∃ m, n ≤ m ∧ (st m).tif = true := by
  by_contra hnone
  push Not at hnone
  simp only [ne_eq, Bool.not_eq_true] at hnone
  induction hk : (st n).tmr using Nat.strong_induction_on generalizing n with
  | h k ih =>
    obtain ⟨m, hm, hclk⟩ := hf.clocks n
    have hstep := hf.tmr_step (hnone m hm)
    have hle := hf.tmr_antitone hnone hm
    rw [hclk, List.count_singleton_self] at hstep
    exact ih _ (by omega) (m + 1) (fun j hj => hnone j (by omega)) rfl

/-! ### The tick comes -/

/-- TIF stays 1 until a tick. -/
theorem FairRun.tif_step (hf : FairRun ops st) {m : Nat} (htif : (st m).tif = true) (hno : ¬ TicksAt ops st m) :
    (st (m + 1)).tif = true := by
  have hbalance := (hf.runInvariant m).timerRuns.exec_expiry_balance (hf.noReset m) (hf.run m)
  rw [TicksAt, Bool.not_eq_true] at hno
  rw [hno, htif] at hbalance
  by_contra h
  rw [Bool.not_eq_true] at h
  simp [h] at hbalance

/-- A TAKE_TIMER presented while the timer is pending is a tick. -/
theorem FairRun.ticksAt_of_takeTimer (hf : FairRun ops st) {m : Nat} (htif : (st m).tif = true)
    (hi : ops m = .takeTimer) : TicksAt ops st m := by
  obtain ⟨⟨hc, hfaults⟩, hbase, -⟩ := hf.runInvariant m
  have hrun := hf.run m
  rw [hi, takeTimer_ticks hc hfaults (hf.takeable_of_tif htif) hbase.phaseLegal] at hrun
  rw [TicksAt, hi, ← Host.Outcome.next.inj hrun]
  exact isTick_tick _

/-- 44_host_contract R103 (b): an expiry is followed by its tick. Otherwise the timer would stay pending, and fairness
would take it. -/
theorem FairRun.eventually_ticks (hf : FairRun ops st) (n : Nat) : ∃ m, n ≤ m ∧ TicksAt ops st m := by
  by_contra hnone
  push Not at hnone
  obtain ⟨k, hk, htif⟩ := hf.eventually_tif n
  have hstays (m : Nat) (hm : k ≤ m) : (st m).tif = true := by
    induction m, hm using Nat.le_induction with
    | base => exact htif
    | succ m hm ih => exact hf.tif_step ih (hnone m (hk.trans hm))
  obtain ⟨m, hm, hi⟩ := hf.dispatch .timer k fun m hm => hf.takeable_of_tif (hstays m hm)
  exact hnone m (hk.trans hm) (hf.ticksAt_of_takeTimer (hstays m hm) hi)

/-! ### The ticks go round -/

theorem FairRun.phase_step (hf : FairRun ops st) {m : Nat} (hno : ¬ TicksAt ops st m) :
    (st (m + 1)).phase = (st m).phase := by
  obtain ⟨hi, -⟩ | ⟨-, -, hphase⟩ := exec_display_of_not_isTick (hf.run m) (Bool.eq_false_iff.2 hno)
  · exact absurd hi (hf.noReset m)
  · exact hphase

/-- The next tick finds the phase of now. -/
theorem FairRun.next_tick (hf : FairRun ops st) (n : Nat) :
    ∃ m, n ≤ m ∧ TicksAt ops st m ∧ (st m).phase = (st n).phase := by
  by_contra hnone
  push Not at hnone
  have hstays (m : Nat) (hm : n ≤ m) : (st m).phase = (st n).phase := by
    induction m, hm using Nat.le_induction with
    | base => rfl
    | succ m hm ih => exact (hf.phase_step fun ht => hnone m hm ht ih).trans ih
  obtain ⟨m, hm, ht⟩ := hf.eventually_ticks n
  exact hnone m hm ht (hstays m hm)

theorem FairRun.takeTimer_of_ticksAt (hf : FairRun ops st) {m : Nat} (h : TicksAt ops st m) :
    exec .takeTimer (st m) = .next (st (m + 1)) ∧ (st (m + 1)).result = .done := by
  obtain ⟨hi, hd⟩ := (ticksAt_iff m).1 h
  exact ⟨hi ▸ hf.run m, hd⟩

/-- Some later tick finds PHASE `k` on from now. -/
theorem FairRun.tick_at_phase (hf : FairRun ops st) (k n : Nat) :
    ∃ m, n ≤ m ∧ TicksAt ops st m ∧ (st m).phase.toNat = ((st n).phase.toNat + k) % 3 := by
  induction k generalizing n with
  | zero =>
    obtain ⟨m, hm, ht, hphase⟩ := hf.next_tick n
    have hlt := (phase_ne_three_iff _).1 (hf.runInvariant n).base.phaseLegal
    exact ⟨m, hm, ht, by rw [hphase]; omega⟩
  | succ k ih =>
    obtain ⟨m, hm, ht, hphase⟩ := hf.next_tick n
    obtain ⟨h, hd⟩ := hf.takeTimer_of_ticksAt ht
    obtain ⟨-, hnext⟩ := takeTimer_done_phase h hd
    obtain ⟨j, hj, htj, hphasej⟩ := ih (m + 1)
    refine ⟨j, by omega, htj, ?_⟩
    rw [hphasej, hnext, hphase]
    omega

/-- Under either tick order each digit is selected from one of the three phases. -/
theorem exists_selectedDigit (o : TickOrder) {d : Nat} (hd : d < 3) : ∃ q < 3, selectedDigit o q = d := by
  cases o with
  | renderThenAdvance => exact ⟨d, hd, rfl⟩
  | advanceThenRender => exact ⟨(d + 2) % 3, Nat.mod_lt _ (by decide), by rw [selectedDigit]; omega⟩

theorem FairRun.tick_selects (hf : FairRun ops st) {d : Nat} (hd : d < 3) (n : Nat) :
    ∃ m, n ≤ m ∧ TicksAt ops st m ∧ (st (m + 1)).en = 1#3 <<< d := by
  obtain ⟨q, hq, hsel⟩ := exists_selectedDigit (st 0).config.tickOrder hd
  have hlt := (phase_ne_three_iff _).1 (hf.runInvariant n).base.phaseLegal
  obtain ⟨m, hm, ht, hphase⟩ := hf.tick_at_phase (q + 3 - (st n).phase.toNat) n
  have hphase' : (st m).phase.toNat = q := by omega
  obtain ⟨h, hdone⟩ := hf.takeTimer_of_ticksAt ht
  refine ⟨m, hm, ht, ?_⟩
  rw [takeTimer_done_selects h hdone, hf.config m, hphase', hsel]

end

/-- Settles O56: `FairRun.tick_selects`. The timer keeps expiring (`eventually_tif`), an expiry has its tick
(`eventually_ticks`), and the ticks visit the phases in turn (`tick_at_phase`). -/
theorem everyDigitIsRefreshedForever : Obligations.EveryDigitIsRefreshedForever := by
  intro ops st hstart hrun hreset hclocks hdispatch hpriority d n hd
  have hf : FairRun ops st := ⟨hstart, hrun, hreset, hclocks, hdispatch, hpriority⟩
  obtain ⟨m, hm, ht, hen⟩ := hf.tick_selects hd n
  obtain ⟨hi, hdone⟩ := (ticksAt_iff m).1 ht
  exact ⟨m, hm, hi, hdone, hen⟩

end Sys2Proof.Machine
end
